-- ==== Sys2Proof/Word.lean ====
section
/-! DEFINITION. The value types of the Morton core (00_scope.md R9, R14; 10_state.md R31): unsigned bit vectors of the
stated widths, the axis, and the coordinate triple. -/
namespace Sys2Proof

/-- A byte cut from a component and used as a table index (R31). -/
abbrev Byte := BitVec 8

/-- One entry of `ILV` or of a packing table: 24 bits (R72, R105). -/
abbrev TableWord := BitVec 24

/-- The word the interleaving algorithm works on: 32 bits (R101). -/
abbrev WorkWord := BitVec 32

/-- A coordinate component: unsigned, 32 bits (R71). -/
abbrev Component := BitVec 32

/-- A Morton code, or the contribution of one axis to one: unsigned, 64 bits (R73). -/
abbrev Code := BitVec 64

/-- A request word: 101 bits (R78). -/
abbrev ReqWord := BitVec 101

/-- A coordinate axis: one of three values (R70). -/
inductive Axis where
  | x
  | y
  | z
deriving DecidableEq, Repr

/-- The ordered triple of coordinate components: first X, then Y, then Z (R75). -/
structure Triple where
  x : Component
  y : Component
  z : Component
deriving DecidableEq, Repr

end Sys2Proof
end

