-- ==== Sys2Proof/Syntax.lean ====
section
/-! DEFINITION. The operation set (30_encoding.md R76, R83): one constructor per row of the opcode table, its operands at the
widths the spec gives them, so that every operand value a requester can write is one here and no other is (R77, R85, R107). -/
namespace Sys2Proof

/-- The operations, one constructor per row of spec/opcode_table.json (R83). -/
inductive Instr where
  | interleave (b : Byte)
  | packX (b : Byte)
  | packY (b : Byte)
  | packZ (b : Byte)
  | encodeAxisX (v : Component)
  | encodeAxisY (v : Component)
  | encodeAxisZ (v : Component)
  | decodeAxisX (c : Code)
  | decodeAxisY (c : Code)
  | decodeAxisZ (c : Code)
  | encode (x : Component) (y : Component) (z : Component)
  | decode (c : Code)
deriving DecidableEq, Repr

/-- The mnemonic of an operation, as the opcode table spells it (R83, R86). -/
def Instr.mnemonic : Instr → String
  | .interleave _ => "INTERLEAVE"
  | .packX _ => "PACK.X"
  | .packY _ => "PACK.Y"
  | .packZ _ => "PACK.Z"
  | .encodeAxisX _ => "ENCODE_AXIS.X"
  | .encodeAxisY _ => "ENCODE_AXIS.Y"
  | .encodeAxisZ _ => "ENCODE_AXIS.Z"
  | .decodeAxisX _ => "DECODE_AXIS.X"
  | .decodeAxisY _ => "DECODE_AXIS.Y"
  | .decodeAxisZ _ => "DECODE_AXIS.Z"
  | .encode _ _ _ => "ENCODE"
  | .decode _ => "DECODE"

/-- The operand values of an operation, in the order the spelling writes them (R86). -/
def Instr.operands : Instr → List Nat
  | .interleave b => [b.toNat]
  | .packX b => [b.toNat]
  | .packY b => [b.toNat]
  | .packZ b => [b.toNat]
  | .encodeAxisX v => [v.toNat]
  | .encodeAxisY v => [v.toNat]
  | .encodeAxisZ v => [v.toNat]
  | .decodeAxisX c => [c.toNat]
  | .decodeAxisY c => [c.toNat]
  | .decodeAxisZ c => [c.toNat]
  | .encode x y z => [x.toNat, y.toNat, z.toNat]
  | .decode c => [c.toNat]

/-- The assembler-like spelling of an operation: the mnemonic, a space, the operands with commas between (R86). The way a
number is written is an argument, since the rule allows two. -/
def Instr.spellingWith (numeral : Nat → String) (i : Instr) : String :=
  i.mnemonic ++ " " ++ ", ".intercalate (i.operands.map numeral)

/-- A number in decimal (R86). -/
def decimal (n : Nat) : String := toString n

/-- A number in hexadecimal, after `0x` (R86). DESIGN CHOICE (entry 15): no leading zeros, letters capital. -/
def hexadecimal (n : Nat) : String := "0x" ++ String.ofList ((Nat.toDigits 16 n).map Char.toUpper)

/-- The spelling with operands in decimal (R86). -/
def Instr.spelling (i : Instr) : String := i.spellingWith decimal

/-- The spelling with operands in hexadecimal (R86). -/
def Instr.hexSpelling (i : Instr) : String := i.spellingWith hexadecimal

/-- The function spelling of the document, operands in decimal (R86). A read of a packing table does not name its axis. -/
def Instr.functionSpelling : Instr → String
  | .interleave b => "interleave(" ++ decimal b.toNat ++ ")"
  | .packX b => "table[" ++ decimal b.toNat ++ "]"
  | .packY b => "table[" ++ decimal b.toNat ++ "]"
  | .packZ b => "table[" ++ decimal b.toNat ++ "]"
  | .encodeAxisX v => "encode_axis(" ++ decimal v.toNat ++ ", X)"
  | .encodeAxisY v => "encode_axis(" ++ decimal v.toNat ++ ", Y)"
  | .encodeAxisZ v => "encode_axis(" ++ decimal v.toNat ++ ", Z)"
  | .decodeAxisX c => "decode_axis(" ++ decimal c.toNat ++ ", X)"
  | .decodeAxisY c => "decode_axis(" ++ decimal c.toNat ++ ", Y)"
  | .decodeAxisZ c => "decode_axis(" ++ decimal c.toNat ++ ", Z)"
  | .encode x y z => "encode(" ++ decimal x.toNat ++ ", " ++ decimal y.toNat ++ ", " ++ decimal z.toNat ++ ")"
  | .decode c => "decode(" ++ decimal c.toNat ++ ")"

/-- `morton(v)`, also `encode(vector)`: `ENCODE` of the triple's components in order (R87). -/
def Instr.morton (t : Triple) : Instr := .encode t.x t.y t.z

/-- `unmorton(c)`: `DECODE` of `c` (R87). -/
def Instr.unmorton (c : Code) : Instr := .decode c

/-- A mask applied to each component of a triple separately, as in `v & 0x1FFFFF` (R87). -/
def Triple.maskEach (t : Triple) (m : Component) : Triple := ⟨t.x &&& m, t.y &&& m, t.z &&& m⟩

end Sys2Proof
end

