-- ==== Sys2Proof/WellFormed.lean ====
section
/-! DEFINITION. Which request words are well formed: those that match a row of the opcode table (30_encoding.md R83, R84).
Every term of `Instr` is well formed by its type: no operand value is reserved (R77, R85), so the check is one on request
words. -/
namespace Sys2Proof

/-- A row of the opcode table: a word spells the row's operation when it agrees with `pattern` under `mask` (R83). -/
structure OpcodeRow where
  mnemonic : String
  pattern : ReqWord
  mask : ReqWord
deriving DecidableEq, Repr

/-- The twelve rows of the opcode table, the values as R83 lists them. -/
def opcodeRows : List OpcodeRow :=
  [⟨"INTERLEAVE", 0x00000000000000000000000000#101, 0x1FFFFFFFFFFFFFFFFFFFFFFF00#101⟩,
   ⟨"PACK.X", 0x04000000000000000000000000#101, 0x1FFFFFFFFFFFFFFFFFFFFFFF00#101⟩,
   ⟨"PACK.Y", 0x05000000000000000000000000#101, 0x1FFFFFFFFFFFFFFFFFFFFFFF00#101⟩,
   ⟨"PACK.Z", 0x06000000000000000000000000#101, 0x1FFFFFFFFFFFFFFFFFFFFFFF00#101⟩,
   ⟨"ENCODE_AXIS.X", 0x08000000000000000000000000#101, 0x1FFFFFFFFFFFFFFFFF00000000#101⟩,
   ⟨"ENCODE_AXIS.Y", 0x09000000000000000000000000#101, 0x1FFFFFFFFFFFFFFFFF00000000#101⟩,
   ⟨"ENCODE_AXIS.Z", 0x0A000000000000000000000000#101, 0x1FFFFFFFFFFFFFFFFF00000000#101⟩,
   ⟨"DECODE_AXIS.X", 0x0C000000000000000000000000#101, 0x1FFFFFFFFF0000000000000000#101⟩,
   ⟨"DECODE_AXIS.Y", 0x0D000000000000000000000000#101, 0x1FFFFFFFFF0000000000000000#101⟩,
   ⟨"DECODE_AXIS.Z", 0x0E000000000000000000000000#101, 0x1FFFFFFFFF0000000000000000#101⟩,
   ⟨"ENCODE", 0x10000000000000000000000000#101, 0x1F000000000000000000000000#101⟩,
   ⟨"DECODE", 0x14000000000000000000000000#101, 0x1FFFFFFFFF0000000000000000#101⟩]

/-- A request word matches a row: `w & mask == match` (R83). -/
def OpcodeRow.matchesWord (r : OpcodeRow) (w : ReqWord) : Bool := w &&& r.mask == r.pattern

/-- A request word is well formed: it matches a row, so it spells an operation (R83, R84). -/
def wellFormed (w : ReqWord) : Bool := opcodeRows.any fun r => r.matchesWord w

end Sys2Proof
end

