-- ==== Sys2Proof/Decode.lean ====
section
/-! DEFINITION. From request words to operations and back, by the fields of 30_encoding.md R78 to R81. A word that spells
no operation is rejected by name (R84, R199); no bit is masked off and no default axis is taken. -/
namespace Sys2Proof

/-- Why a word spells no operation (R84; 93_implementation_defined.md I8 to I11). Raised by the decoder only. Safe: nothing
can be proved of a run that holds such a word (60_exceptions.md R199). -/
inductive Reject where
  /-- `op` is 6 or 7 (I8). -/
  | reservedOp
  /-- `axis` is 3 with an `op` that takes an axis (I9). -/
  | reservedAxis
  /-- `axis` is not 0 with an `op` that takes none (I10). -/
  | axisNotZero
  /-- A payload bit outside the operand fields is 1 (I11). -/
  | payloadNotZero
  /-- The number has a bit above bit 100, so it is no request word at all (95_test_vectors.md 2.8). -/
  | notARequestWord
deriving DecidableEq, Repr

/-- `op = REQ[100:98]` (R78). -/
def opField (w : ReqWord) : BitVec 3 := w.extractLsb' 98 3

/-- `axis = REQ[97:96]` (R78). -/
def axisField (w : ReqWord) : BitVec 2 := w.extractLsb' 96 2

/-- `payload = REQ[95:0]` (R78). -/
def payloadField (w : ReqWord) : BitVec 96 := w.extractLsb' 0 96

/-- Formats B, A32, A64 and C: one operand in the low `n` payload bits, `n` = 8, 32 or 64, every bit above it zero (R80). -/
def readLow (n : Nat) (mk : BitVec n → Instr) (p : BitVec 96) : Except Reject Instr :=
  if p.extractLsb' n (96 - n) = 0 then .ok (mk (p.extractLsb' 0 n)) else .error .payloadNotZero

/-- Format V: `x` in payload bits 31:0, `y` in 63:32, `z` in 95:64; no bit is unused (R80). -/
def readV (mk : Component → Component → Component → Instr) (p : BitVec 96) : Except Reject Instr :=
  .ok (mk (p.extractLsb' 0 32) (p.extractLsb' 32 32) (p.extractLsb' 64 32))

/-- The operation of the fields `op` and `axis`, its operands read from the payload (R79, R80, R84). The checks run in the
order op, axis, payload. DESIGN CHOICE (entry 6): a word that breaks several is named by the first. -/
def decodeFields (op axis : Nat) (p : BitVec 96) : Except Reject Instr :=
  match op, axis with
  | 0, 0 => readLow 8 .interleave p
  | 0, _ => .error .axisNotZero
  | 1, 0 => readLow 8 .packX p
  | 1, 1 => readLow 8 .packY p
  | 1, 2 => readLow 8 .packZ p
  | 1, _ => .error .reservedAxis
  | 2, 0 => readLow 32 .encodeAxisX p
  | 2, 1 => readLow 32 .encodeAxisY p
  | 2, 2 => readLow 32 .encodeAxisZ p
  | 2, _ => .error .reservedAxis
  | 3, 0 => readLow 64 .decodeAxisX p
  | 3, 1 => readLow 64 .decodeAxisY p
  | 3, 2 => readLow 64 .decodeAxisZ p
  | 3, _ => .error .reservedAxis
  | 4, 0 => readV .encode p
  | 4, _ => .error .axisNotZero
  | 5, 0 => readLow 64 .decode p
  | 5, _ => .error .axisNotZero
  | _, _ => .error .reservedOp

/-- The operation a request word spells, or the name of why it spells none (R78 to R84). -/
def decodeWord (w : ReqWord) : Except Reject Instr :=
  decodeFields (opField w).toNat (axisField w).toNat (payloadField w)

/-- A number read as a request word: refused when it has a bit above bit 100 (95_test_vectors.md 2.8). -/
def readWord (n : Nat) : Except Reject ReqWord :=
  if n < 2 ^ 101 then .ok (BitVec.ofNat 101 n) else .error .notARequestWord

/-- The decoder on an opcode-table number. A request word is ONE word (R80), so the number is the word; `nbits`, the row's
width in whole bytes, adds nothing to it. -/
def decodeTableWord (_nbits w : Nat) : Option Instr :=
  match readWord w with
  | .error _ => none
  | .ok r => (decodeWord r).toOption

/-- A request word from its three fields (R78). -/
def requestWord (op : BitVec 3) (axis : BitVec 2) (payload : BitVec 96) : ReqWord :=
  (op ++ axis) ++ payload

/-- The payload of format V (R80). -/
def payloadV (x y z : Component) : BitVec 96 := (z ++ y) ++ x

/-- The request word of an operation: `op` by R79, `axis` the lane offset or 0 (R78), the payload by R80. -/
def encodeWord : Instr → ReqWord
  | .interleave b => requestWord 0 0 (b.setWidth 96)
  | .packX b => requestWord 1 0 (b.setWidth 96)
  | .packY b => requestWord 1 1 (b.setWidth 96)
  | .packZ b => requestWord 1 2 (b.setWidth 96)
  | .encodeAxisX v => requestWord 2 0 (v.setWidth 96)
  | .encodeAxisY v => requestWord 2 1 (v.setWidth 96)
  | .encodeAxisZ v => requestWord 2 2 (v.setWidth 96)
  | .decodeAxisX c => requestWord 3 0 (c.setWidth 96)
  | .decodeAxisY c => requestWord 3 1 (c.setWidth 96)
  | .decodeAxisZ c => requestWord 3 2 (c.setWidth 96)
  | .encode x y z => requestWord 4 0 (payloadV x y z)
  | .decode c => requestWord 5 0 (c.setWidth 96)

end Sys2Proof
end

