-- ==== Sys2Proof/Machine/State.lean ====
section
/-! DEFINITION. The state of the model. The core has no mutable state (10_state.md R20, R35), so `State` holds the model's
own transaction-level record only: the request words waiting and the requests served with their responses (R35, R226).
The tables and masks are constants, never written (R29), and stand in Sys2Proof/Machine/Tables.lean. -/
namespace Sys2Proof.Machine

/-- A response, by the kind of its operation (30_encoding.md R82). It has no status, error or valid bit (R23). -/
inductive Response where
  /-- 24 bits, of `INTERLEAVE` and `PACK`. -/
  | tableWord (w : TableWord)
  /-- 64 bits, of `ENCODE_AXIS` and `ENCODE`. -/
  | code (c : Code)
  /-- 32 bits, of `DECODE_AXIS`. -/
  | component (v : Component)
  /-- 96 bits, of `DECODE`. -/
  | triple (t : Triple)
deriving DecidableEq, Repr

/-- A request that has been served, with its response (R35). -/
structure Served where
  request : Instr
  response : Response
deriving DecidableEq, Repr

/-- The transaction-level record (R35, R226). DESIGN CHOICE (entry 1). -/
structure State where
  /-- Request words presented and not yet served, the next one first. -/
  pending : List ReqWord
  /-- Requests served so far with their responses, the oldest first. -/
  served : List Served
deriving DecidableEq, Repr

/-- Right after reset the core has nothing to set (R34, R215). DESIGN CHOICE (entry 2): the record starts with no request
presented and none served. -/
def State.reset : State := ⟨[], []⟩

/-- The faults of the core: none. It raises no exception on any operation, for any operand, and never sticks
(60_exceptions.md R190, R205), so this type has no constructor and no one raises it. Safe. -/
inductive Fault where
deriving DecidableEq, Repr

/-- Why a step gives no response. -/
inductive Refusal where
  /-- An operation with no meaning yet. Raised by no arm of `exec`: all twelve have their meaning. Safe. -/
  | notModelled (mnemonic : String)
  /-- The word presented spells no operation (R84, R199). Raised by `step`, before any operation runs; corresponds to
  nothing in the hardware. Safe. -/
  | illFormedRequest (why : Reject)
deriving DecidableEq, Repr

end Sys2Proof.Machine
end

