-- ==== Sys2Proof/Machine/Operands.lean ====
section
/-! DEFINITION. The operand forms: the three bytes of a component (41_encoder.md R121), the widenings (30_encoding.md R81),
and the layout of a response word (R82). Operands reach an operation at exactly the width of their field (R81). -/
namespace Sys2Proof.Machine

/-- `v[7:0]` (R121). -/
def lowByte (v : Component) : Byte := v.extractLsb' 0 8

/-- `v[15:8]` (R121). -/
def middleByte (v : Component) : Byte := v.extractLsb' 8 8

/-- `v[23:16]`: the whole high byte is an index, all 8 bits of it; `v[31:24]` feeds nothing (R121). -/
def highByte (v : Component) : Byte := v.extractLsb' 16 8

/-- A byte as the 32-bit word the interleaver starts from (R81, R101). -/
def widenByte (b : Byte) : WorkWord := b.setWidth 32

/-- A table word zero-extended to 64 bits before the encoder shifts it (R122). -/
def widenWord (t : TableWord) : Code := t.setWidth 64

/-- The low 24 bits of the interleaver's working word (R81, R105). -/
def narrowWork (w : WorkWord) : TableWord := w.setWidth 24

/-- The low 32 bits of the decoder's last value (R81, R146). -/
def narrowCode (c : Code) : Component := c.setWidth 32

/-- The width of a response word (R82). -/
def responseWidth : Response → Nat
  | .tableWord _ => 24
  | .code _ => 64
  | .component _ => 32
  | .triple _ => 96

/-- The response word `RSP`: for a triple, x in bits 31:0, y in 63:32, z in 95:64 (R82). -/
def responseWord : (r : Response) → BitVec (responseWidth r)
  | .tableWord w => w
  | .code c => c
  | .component v => v
  | .triple t => ((t.z ++ t.y : BitVec 64) ++ t.x : BitVec 96)

end Sys2Proof.Machine
end

