-- ==== Sys2Proof/Machine/Flags.lean ====
section
/-! DEFINITION. The flag computations: there are none. No operation reports overflow, truncation, range error or any other
status, and a result carries no valid bit (10_state.md R23; 60_exceptions.md R191). This file declares nothing. -/
end

