-- ==== Sys2Proof/Config.lean ====
section
/-! DEFINITION. The fixed counts of the hardware (00_scope.md R9). A model takes them as constants: no field differs between
two cores (10_state.md R35), no value is left open (93_implementation_defined.md), so there is no free value here. The
timing parameters `T_LUT`, `T_ENC`, `T_DEC` are read by no rule (R10) and have no constant. -/
namespace Sys2Proof.Config

/-- Entries in the interleave table and in each packing table (R9). -/
abbrev tableEntries : Nat := 256

/-- The width of a Morton code (R9). -/
abbrev codeBits : Nat := 64

/-- The width of a coordinate component (R9). -/
abbrev componentBits : Nat := 32

/-- The width of a request word (R78). -/
abbrev requestBits : Nat := 101

/-- Every axis, in the order of the triple (R9, R75). -/
def axes : List Axis := [.x, .y, .z]

end Sys2Proof.Config
end

