-- ==== Sys2Proof/Machine/Tables.lean ====
section
/-! DEFINITION. The constant data of the core (10_state.md R26 to R28) and the constants the spec derives for the code's
lanes (30_encoding.md R74). No operation writes any of it (R29); it has these contents from the first moment on (R34, R216).
The 256 words of `ILV` are the listing of R26; the listings of `PACK[Y]` and `PACK[Z]` under R27 stand here as the spec
prints them, while `PACK` itself is defined from `ILV` in Sys2Proof/Machine/Ops.lean, as R27 and R30 ask. -/
namespace Sys2Proof.Machine

/-- The interleaver's level 4 mask (R28). -/
def im4 : WorkWord := 0xFF0000FF#32

/-- The interleaver's level 3 mask (R28). -/
def im3 : WorkWord := 0x0F00F00F#32

/-- The interleaver's level 2 mask (R28). -/
def im2 : WorkWord := 0xC30C30C3#32

/-- The interleaver's level 1 mask (R28). -/
def im1 : WorkWord := 0x49249249#32

/-- The decoder's step 1 mask (R28). -/
def dm0 : Code := 0x9249249249249249#64

/-- The decoder's step 2 mask (R28). -/
def dm1 : Code := 0x30C30C30C30C30C3#64

/-- The decoder's step 3 mask (R28). -/
def dm2 : Code := 0xF00F00F00F00F00F#64

/-- The decoder's step 4 mask (R28). -/
def dm3 : Code := 0x00FF0000FF0000FF#64

/-- The decoder's step 5 mask (R28). -/
def dm4 : Code := 0xFFFF00000000FFFF#64

/-- The decoder's step 6 mask (R28). -/
def dm5 : Code := 0x00000000FFFFFFFF#64

/-- The lane offset of an axis: 0, 1, 2 (R70). -/
def lane : Axis → Nat
  | .x => 0
  | .y => 1
  | .z => 2

/-- The code bits of an axis (R74). -/
def lanepos : Axis → Code
  | .x => 0x9249249249249249#64
  | .y => 0x2492492492492492#64
  | .z => 0x4924924924924924#64

/-- The component bits of an axis that survive a round trip: 22 of X, 21 of Y and Z (R74; 90_conflicts.md C1). -/
def keep : Axis → Component
  | .x => 0x003FFFFF#32
  | .y => 0x001FFFFF#32
  | .z => 0x001FFFFF#32

/-- Entries 0x00 to 0x1F of `ILV`, as listed under R26. -/
def ilvRows00 : List TableWord :=
  [
   0x000000#24, 0x000001#24, 0x000008#24, 0x000009#24, 0x000040#24, 0x000041#24, 0x000048#24, 0x000049#24,
   0x000200#24, 0x000201#24, 0x000208#24, 0x000209#24, 0x000240#24, 0x000241#24, 0x000248#24, 0x000249#24,
   0x001000#24, 0x001001#24, 0x001008#24, 0x001009#24, 0x001040#24, 0x001041#24, 0x001048#24, 0x001049#24,
   0x001200#24, 0x001201#24, 0x001208#24, 0x001209#24, 0x001240#24, 0x001241#24, 0x001248#24, 0x001249#24]

/-- Entries 0x20 to 0x3F of `ILV`, as listed under R26. -/
def ilvRows20 : List TableWord :=
  [
   0x008000#24, 0x008001#24, 0x008008#24, 0x008009#24, 0x008040#24, 0x008041#24, 0x008048#24, 0x008049#24,
   0x008200#24, 0x008201#24, 0x008208#24, 0x008209#24, 0x008240#24, 0x008241#24, 0x008248#24, 0x008249#24,
   0x009000#24, 0x009001#24, 0x009008#24, 0x009009#24, 0x009040#24, 0x009041#24, 0x009048#24, 0x009049#24,
   0x009200#24, 0x009201#24, 0x009208#24, 0x009209#24, 0x009240#24, 0x009241#24, 0x009248#24, 0x009249#24]

/-- Entries 0x40 to 0x5F of `ILV`, as listed under R26. -/
def ilvRows40 : List TableWord :=
  [
   0x040000#24, 0x040001#24, 0x040008#24, 0x040009#24, 0x040040#24, 0x040041#24, 0x040048#24, 0x040049#24,
   0x040200#24, 0x040201#24, 0x040208#24, 0x040209#24, 0x040240#24, 0x040241#24, 0x040248#24, 0x040249#24,
   0x041000#24, 0x041001#24, 0x041008#24, 0x041009#24, 0x041040#24, 0x041041#24, 0x041048#24, 0x041049#24,
   0x041200#24, 0x041201#24, 0x041208#24, 0x041209#24, 0x041240#24, 0x041241#24, 0x041248#24, 0x041249#24]

/-- Entries 0x60 to 0x7F of `ILV`, as listed under R26. -/
def ilvRows60 : List TableWord :=
  [
   0x048000#24, 0x048001#24, 0x048008#24, 0x048009#24, 0x048040#24, 0x048041#24, 0x048048#24, 0x048049#24,
   0x048200#24, 0x048201#24, 0x048208#24, 0x048209#24, 0x048240#24, 0x048241#24, 0x048248#24, 0x048249#24,
   0x049000#24, 0x049001#24, 0x049008#24, 0x049009#24, 0x049040#24, 0x049041#24, 0x049048#24, 0x049049#24,
   0x049200#24, 0x049201#24, 0x049208#24, 0x049209#24, 0x049240#24, 0x049241#24, 0x049248#24, 0x049249#24]

/-- Entries 0x80 to 0x9F of `ILV`, as listed under R26. -/
def ilvRows80 : List TableWord :=
  [
   0x200000#24, 0x200001#24, 0x200008#24, 0x200009#24, 0x200040#24, 0x200041#24, 0x200048#24, 0x200049#24,
   0x200200#24, 0x200201#24, 0x200208#24, 0x200209#24, 0x200240#24, 0x200241#24, 0x200248#24, 0x200249#24,
   0x201000#24, 0x201001#24, 0x201008#24, 0x201009#24, 0x201040#24, 0x201041#24, 0x201048#24, 0x201049#24,
   0x201200#24, 0x201201#24, 0x201208#24, 0x201209#24, 0x201240#24, 0x201241#24, 0x201248#24, 0x201249#24]

/-- Entries 0xA0 to 0xBF of `ILV`, as listed under R26. -/
def ilvRowsA0 : List TableWord :=
  [
   0x208000#24, 0x208001#24, 0x208008#24, 0x208009#24, 0x208040#24, 0x208041#24, 0x208048#24, 0x208049#24,
   0x208200#24, 0x208201#24, 0x208208#24, 0x208209#24, 0x208240#24, 0x208241#24, 0x208248#24, 0x208249#24,
   0x209000#24, 0x209001#24, 0x209008#24, 0x209009#24, 0x209040#24, 0x209041#24, 0x209048#24, 0x209049#24,
   0x209200#24, 0x209201#24, 0x209208#24, 0x209209#24, 0x209240#24, 0x209241#24, 0x209248#24, 0x209249#24]

/-- Entries 0xC0 to 0xDF of `ILV`, as listed under R26. -/
def ilvRowsC0 : List TableWord :=
  [
   0x240000#24, 0x240001#24, 0x240008#24, 0x240009#24, 0x240040#24, 0x240041#24, 0x240048#24, 0x240049#24,
   0x240200#24, 0x240201#24, 0x240208#24, 0x240209#24, 0x240240#24, 0x240241#24, 0x240248#24, 0x240249#24,
   0x241000#24, 0x241001#24, 0x241008#24, 0x241009#24, 0x241040#24, 0x241041#24, 0x241048#24, 0x241049#24,
   0x241200#24, 0x241201#24, 0x241208#24, 0x241209#24, 0x241240#24, 0x241241#24, 0x241248#24, 0x241249#24]

/-- Entries 0xE0 to 0xFF of `ILV`, as listed under R26. -/
def ilvRowsE0 : List TableWord :=
  [
   0x248000#24, 0x248001#24, 0x248008#24, 0x248009#24, 0x248040#24, 0x248041#24, 0x248048#24, 0x248049#24,
   0x248200#24, 0x248201#24, 0x248208#24, 0x248209#24, 0x248240#24, 0x248241#24, 0x248248#24, 0x248249#24,
   0x249000#24, 0x249001#24, 0x249008#24, 0x249009#24, 0x249040#24, 0x249041#24, 0x249048#24, 0x249049#24,
   0x249200#24, 0x249201#24, 0x249208#24, 0x249209#24, 0x249240#24, 0x249241#24, 0x249248#24, 0x249249#24]

/-- The 256 words of `ILV`, as listed under R26, the entry for index 0 first. -/
def ilvTable : List TableWord :=
  ilvRows00 ++ ilvRows20 ++ ilvRows40 ++ ilvRows60 ++
    ilvRows80 ++ ilvRowsA0 ++ ilvRowsC0 ++ ilvRowsE0

/-- Entries 0x00 to 0x1F of `PACK[Y]`, as listed under R27. -/
def packYRows00 : List TableWord :=
  [
   0x000000#24, 0x000002#24, 0x000010#24, 0x000012#24, 0x000080#24, 0x000082#24, 0x000090#24, 0x000092#24,
   0x000400#24, 0x000402#24, 0x000410#24, 0x000412#24, 0x000480#24, 0x000482#24, 0x000490#24, 0x000492#24,
   0x002000#24, 0x002002#24, 0x002010#24, 0x002012#24, 0x002080#24, 0x002082#24, 0x002090#24, 0x002092#24,
   0x002400#24, 0x002402#24, 0x002410#24, 0x002412#24, 0x002480#24, 0x002482#24, 0x002490#24, 0x002492#24]

/-- Entries 0x20 to 0x3F of `PACK[Y]`, as listed under R27. -/
def packYRows20 : List TableWord :=
  [
   0x010000#24, 0x010002#24, 0x010010#24, 0x010012#24, 0x010080#24, 0x010082#24, 0x010090#24, 0x010092#24,
   0x010400#24, 0x010402#24, 0x010410#24, 0x010412#24, 0x010480#24, 0x010482#24, 0x010490#24, 0x010492#24,
   0x012000#24, 0x012002#24, 0x012010#24, 0x012012#24, 0x012080#24, 0x012082#24, 0x012090#24, 0x012092#24,
   0x012400#24, 0x012402#24, 0x012410#24, 0x012412#24, 0x012480#24, 0x012482#24, 0x012490#24, 0x012492#24]

/-- Entries 0x40 to 0x5F of `PACK[Y]`, as listed under R27. -/
def packYRows40 : List TableWord :=
  [
   0x080000#24, 0x080002#24, 0x080010#24, 0x080012#24, 0x080080#24, 0x080082#24, 0x080090#24, 0x080092#24,
   0x080400#24, 0x080402#24, 0x080410#24, 0x080412#24, 0x080480#24, 0x080482#24, 0x080490#24, 0x080492#24,
   0x082000#24, 0x082002#24, 0x082010#24, 0x082012#24, 0x082080#24, 0x082082#24, 0x082090#24, 0x082092#24,
   0x082400#24, 0x082402#24, 0x082410#24, 0x082412#24, 0x082480#24, 0x082482#24, 0x082490#24, 0x082492#24]

/-- Entries 0x60 to 0x7F of `PACK[Y]`, as listed under R27. -/
def packYRows60 : List TableWord :=
  [
   0x090000#24, 0x090002#24, 0x090010#24, 0x090012#24, 0x090080#24, 0x090082#24, 0x090090#24, 0x090092#24,
   0x090400#24, 0x090402#24, 0x090410#24, 0x090412#24, 0x090480#24, 0x090482#24, 0x090490#24, 0x090492#24,
   0x092000#24, 0x092002#24, 0x092010#24, 0x092012#24, 0x092080#24, 0x092082#24, 0x092090#24, 0x092092#24,
   0x092400#24, 0x092402#24, 0x092410#24, 0x092412#24, 0x092480#24, 0x092482#24, 0x092490#24, 0x092492#24]

/-- Entries 0x80 to 0x9F of `PACK[Y]`, as listed under R27. -/
def packYRows80 : List TableWord :=
  [
   0x400000#24, 0x400002#24, 0x400010#24, 0x400012#24, 0x400080#24, 0x400082#24, 0x400090#24, 0x400092#24,
   0x400400#24, 0x400402#24, 0x400410#24, 0x400412#24, 0x400480#24, 0x400482#24, 0x400490#24, 0x400492#24,
   0x402000#24, 0x402002#24, 0x402010#24, 0x402012#24, 0x402080#24, 0x402082#24, 0x402090#24, 0x402092#24,
   0x402400#24, 0x402402#24, 0x402410#24, 0x402412#24, 0x402480#24, 0x402482#24, 0x402490#24, 0x402492#24]

/-- Entries 0xA0 to 0xBF of `PACK[Y]`, as listed under R27. -/
def packYRowsA0 : List TableWord :=
  [
   0x410000#24, 0x410002#24, 0x410010#24, 0x410012#24, 0x410080#24, 0x410082#24, 0x410090#24, 0x410092#24,
   0x410400#24, 0x410402#24, 0x410410#24, 0x410412#24, 0x410480#24, 0x410482#24, 0x410490#24, 0x410492#24,
   0x412000#24, 0x412002#24, 0x412010#24, 0x412012#24, 0x412080#24, 0x412082#24, 0x412090#24, 0x412092#24,
   0x412400#24, 0x412402#24, 0x412410#24, 0x412412#24, 0x412480#24, 0x412482#24, 0x412490#24, 0x412492#24]

/-- Entries 0xC0 to 0xDF of `PACK[Y]`, as listed under R27. -/
def packYRowsC0 : List TableWord :=
  [
   0x480000#24, 0x480002#24, 0x480010#24, 0x480012#24, 0x480080#24, 0x480082#24, 0x480090#24, 0x480092#24,
   0x480400#24, 0x480402#24, 0x480410#24, 0x480412#24, 0x480480#24, 0x480482#24, 0x480490#24, 0x480492#24,
   0x482000#24, 0x482002#24, 0x482010#24, 0x482012#24, 0x482080#24, 0x482082#24, 0x482090#24, 0x482092#24,
   0x482400#24, 0x482402#24, 0x482410#24, 0x482412#24, 0x482480#24, 0x482482#24, 0x482490#24, 0x482492#24]

/-- Entries 0xE0 to 0xFF of `PACK[Y]`, as listed under R27. -/
def packYRowsE0 : List TableWord :=
  [
   0x490000#24, 0x490002#24, 0x490010#24, 0x490012#24, 0x490080#24, 0x490082#24, 0x490090#24, 0x490092#24,
   0x490400#24, 0x490402#24, 0x490410#24, 0x490412#24, 0x490480#24, 0x490482#24, 0x490490#24, 0x490492#24,
   0x492000#24, 0x492002#24, 0x492010#24, 0x492012#24, 0x492080#24, 0x492082#24, 0x492090#24, 0x492092#24,
   0x492400#24, 0x492402#24, 0x492410#24, 0x492412#24, 0x492480#24, 0x492482#24, 0x492490#24, 0x492492#24]

/-- The 256 words of `PACK[Y]`, as listed under R27, the entry for index 0 first. -/
def packYTable : List TableWord :=
  packYRows00 ++ packYRows20 ++ packYRows40 ++ packYRows60 ++
    packYRows80 ++ packYRowsA0 ++ packYRowsC0 ++ packYRowsE0

/-- Entries 0x00 to 0x1F of `PACK[Z]`, as listed under R27. -/
def packZRows00 : List TableWord :=
  [
   0x000000#24, 0x000004#24, 0x000020#24, 0x000024#24, 0x000100#24, 0x000104#24, 0x000120#24, 0x000124#24,
   0x000800#24, 0x000804#24, 0x000820#24, 0x000824#24, 0x000900#24, 0x000904#24, 0x000920#24, 0x000924#24,
   0x004000#24, 0x004004#24, 0x004020#24, 0x004024#24, 0x004100#24, 0x004104#24, 0x004120#24, 0x004124#24,
   0x004800#24, 0x004804#24, 0x004820#24, 0x004824#24, 0x004900#24, 0x004904#24, 0x004920#24, 0x004924#24]

/-- Entries 0x20 to 0x3F of `PACK[Z]`, as listed under R27. -/
def packZRows20 : List TableWord :=
  [
   0x020000#24, 0x020004#24, 0x020020#24, 0x020024#24, 0x020100#24, 0x020104#24, 0x020120#24, 0x020124#24,
   0x020800#24, 0x020804#24, 0x020820#24, 0x020824#24, 0x020900#24, 0x020904#24, 0x020920#24, 0x020924#24,
   0x024000#24, 0x024004#24, 0x024020#24, 0x024024#24, 0x024100#24, 0x024104#24, 0x024120#24, 0x024124#24,
   0x024800#24, 0x024804#24, 0x024820#24, 0x024824#24, 0x024900#24, 0x024904#24, 0x024920#24, 0x024924#24]

/-- Entries 0x40 to 0x5F of `PACK[Z]`, as listed under R27. -/
def packZRows40 : List TableWord :=
  [
   0x100000#24, 0x100004#24, 0x100020#24, 0x100024#24, 0x100100#24, 0x100104#24, 0x100120#24, 0x100124#24,
   0x100800#24, 0x100804#24, 0x100820#24, 0x100824#24, 0x100900#24, 0x100904#24, 0x100920#24, 0x100924#24,
   0x104000#24, 0x104004#24, 0x104020#24, 0x104024#24, 0x104100#24, 0x104104#24, 0x104120#24, 0x104124#24,
   0x104800#24, 0x104804#24, 0x104820#24, 0x104824#24, 0x104900#24, 0x104904#24, 0x104920#24, 0x104924#24]

/-- Entries 0x60 to 0x7F of `PACK[Z]`, as listed under R27. -/
def packZRows60 : List TableWord :=
  [
   0x120000#24, 0x120004#24, 0x120020#24, 0x120024#24, 0x120100#24, 0x120104#24, 0x120120#24, 0x120124#24,
   0x120800#24, 0x120804#24, 0x120820#24, 0x120824#24, 0x120900#24, 0x120904#24, 0x120920#24, 0x120924#24,
   0x124000#24, 0x124004#24, 0x124020#24, 0x124024#24, 0x124100#24, 0x124104#24, 0x124120#24, 0x124124#24,
   0x124800#24, 0x124804#24, 0x124820#24, 0x124824#24, 0x124900#24, 0x124904#24, 0x124920#24, 0x124924#24]

/-- Entries 0x80 to 0x9F of `PACK[Z]`, as listed under R27. -/
def packZRows80 : List TableWord :=
  [
   0x800000#24, 0x800004#24, 0x800020#24, 0x800024#24, 0x800100#24, 0x800104#24, 0x800120#24, 0x800124#24,
   0x800800#24, 0x800804#24, 0x800820#24, 0x800824#24, 0x800900#24, 0x800904#24, 0x800920#24, 0x800924#24,
   0x804000#24, 0x804004#24, 0x804020#24, 0x804024#24, 0x804100#24, 0x804104#24, 0x804120#24, 0x804124#24,
   0x804800#24, 0x804804#24, 0x804820#24, 0x804824#24, 0x804900#24, 0x804904#24, 0x804920#24, 0x804924#24]

/-- Entries 0xA0 to 0xBF of `PACK[Z]`, as listed under R27. -/
def packZRowsA0 : List TableWord :=
  [
   0x820000#24, 0x820004#24, 0x820020#24, 0x820024#24, 0x820100#24, 0x820104#24, 0x820120#24, 0x820124#24,
   0x820800#24, 0x820804#24, 0x820820#24, 0x820824#24, 0x820900#24, 0x820904#24, 0x820920#24, 0x820924#24,
   0x824000#24, 0x824004#24, 0x824020#24, 0x824024#24, 0x824100#24, 0x824104#24, 0x824120#24, 0x824124#24,
   0x824800#24, 0x824804#24, 0x824820#24, 0x824824#24, 0x824900#24, 0x824904#24, 0x824920#24, 0x824924#24]

/-- Entries 0xC0 to 0xDF of `PACK[Z]`, as listed under R27. -/
def packZRowsC0 : List TableWord :=
  [
   0x900000#24, 0x900004#24, 0x900020#24, 0x900024#24, 0x900100#24, 0x900104#24, 0x900120#24, 0x900124#24,
   0x900800#24, 0x900804#24, 0x900820#24, 0x900824#24, 0x900900#24, 0x900904#24, 0x900920#24, 0x900924#24,
   0x904000#24, 0x904004#24, 0x904020#24, 0x904024#24, 0x904100#24, 0x904104#24, 0x904120#24, 0x904124#24,
   0x904800#24, 0x904804#24, 0x904820#24, 0x904824#24, 0x904900#24, 0x904904#24, 0x904920#24, 0x904924#24]

/-- Entries 0xE0 to 0xFF of `PACK[Z]`, as listed under R27. -/
def packZRowsE0 : List TableWord :=
  [
   0x920000#24, 0x920004#24, 0x920020#24, 0x920024#24, 0x920100#24, 0x920104#24, 0x920120#24, 0x920124#24,
   0x920800#24, 0x920804#24, 0x920820#24, 0x920824#24, 0x920900#24, 0x920904#24, 0x920920#24, 0x920924#24,
   0x924000#24, 0x924004#24, 0x924020#24, 0x924024#24, 0x924100#24, 0x924104#24, 0x924120#24, 0x924124#24,
   0x924800#24, 0x924804#24, 0x924820#24, 0x924824#24, 0x924900#24, 0x924904#24, 0x924920#24, 0x924924#24]

/-- The 256 words of `PACK[Z]`, as listed under R27, the entry for index 0 first. -/
def packZTable : List TableWord :=
  packZRows00 ++ packZRows20 ++ packZRows40 ++ packZRows60 ++
    packZRows80 ++ packZRowsA0 ++ packZRowsC0 ++ packZRowsE0

end Sys2Proof.Machine
end

