-- ==== Sys2Proof/Machine/Ops.lean ====
section
/-! DEFINITION. The operations every meaning is made of: the table reads (20_memory.md R50), the interleaving algorithm
(40_byte_interleaver.md R101), the per-axis encoder (41_encoder.md R120), the per-axis decoder (42_decoder.md R140), and how
a response enters the record. There is no exception to take and none to return from (60_exceptions.md R190, R194, R195), no
register to write (R21) and no memory to store to (R51). -/
namespace Sys2Proof.Machine

/-- The contract of the byte interleaver: bit `i` of the byte at bit `3i`, every other bit 0 (R100). -/
def interleave (b : Byte) : TableWord :=
  (List.range 8).foldl (fun r i => r ||| ((BitVec.ofBool (b.getLsbD i)).setWidth 24 <<< (3 * i))) 0#24

/-- One level of the interleaving algorithm: OR with the word shifted left, then mask (R101). -/
def spreadLevel (n : Nat) (mask w : WorkWord) : WorkWord := (w ||| (w <<< n)) &&& mask

/-- `w1`, after level 4 (R101). -/
def interleaveW1 (b : Byte) : WorkWord := spreadLevel 16 im4 (widenByte b)

/-- `w2`, after level 3 (R101). -/
def interleaveW2 (b : Byte) : WorkWord := spreadLevel 8 im3 (interleaveW1 b)

/-- `w3`, after level 2 (R101). -/
def interleaveW3 (b : Byte) : WorkWord := spreadLevel 4 im2 (interleaveW2 b)

/-- `w4`, after level 1: the result of the algorithm, in 32 bits (R101). -/
def interleaveAlg (b : Byte) : WorkWord := spreadLevel 2 im1 (interleaveW3 b)

/-- The table read `ILV[b]`: every index is populated, so the default is never taken (R26, R54). -/
def ilv (b : Byte) : TableWord := ilvTable.getD b.toNat 0#24

/-- The packing-table read `PACK[a][b] = ILV[b] << lane(a)`, a 24-bit shift (R27, R108). -/
def pack (a : Axis) (b : Byte) : TableWord := ilv b <<< lane a

/-- `ENCODE_AXIS(a, v)`: three reads, widened to 64 bits, placed at 0, 24 and 48; bits shifted past bit 63 are discarded
(R120 to R123). -/
def encodeAxis (a : Axis) (v : Component) : Code :=
  (widenWord (pack a (highByte v)) <<< 48) ||| (widenWord (pack a (middleByte v)) <<< 24) |||
    widenWord (pack a (lowByte v))

/-- `ENCODE(x, y, z)`: the OR of the three contributions (R128). -/
def mortonEncode (t : Triple) : Code := encodeAxis .x t.x ||| encodeAxis .y t.y ||| encodeAxis .z t.z

/-- One step of the cascade: OR with the value shifted right, logically, then mask (R142, R145). -/
def gatherStep (n : Nat) (mask s : Code) : Code := (s ||| (s >>> n)) &&& mask

/-- `s0`: the code shifted right by the lane offset (R141). -/
def cascadeS0 (a : Axis) (c : Code) : Code := c >>> lane a

/-- `s1`, after step 1: a mask only (R142). -/
def cascadeS1 (a : Axis) (c : Code) : Code := cascadeS0 a c &&& dm0

/-- `s2`, after step 2 (R140). -/
def cascadeS2 (a : Axis) (c : Code) : Code := gatherStep 2 dm1 (cascadeS1 a c)

/-- `s3`, after step 3 (R140). -/
def cascadeS3 (a : Axis) (c : Code) : Code := gatherStep 4 dm2 (cascadeS2 a c)

/-- `s4`, after step 4 (R140). -/
def cascadeS4 (a : Axis) (c : Code) : Code := gatherStep 8 dm3 (cascadeS3 a c)

/-- `s5`, after step 5 (R140). -/
def cascadeS5 (a : Axis) (c : Code) : Code := gatherStep 16 dm4 (cascadeS4 a c)

/-- `s6`, after step 6 (R140). -/
def cascadeS6 (a : Axis) (c : Code) : Code := gatherStep 32 dm5 (cascadeS5 a c)

/-- `DECODE_AXIS(a, c)`: the low 32 bits of `s6` (R140, R146). -/
def decodeAxis (a : Axis) (c : Code) : Component := narrowCode (cascadeS6 a c)

/-- `DECODE(c)`: the three results side by side, never ORed (R150, R154). -/
def mortonDecode (c : Code) : Triple := ⟨decodeAxis .x c, decodeAxis .y c, decodeAxis .z c⟩

/-- The record after a request has been served: it gains one entry at its end; nothing else changes (R35). -/
def recordServed (i : Instr) (r : Response) (s : State) : State :=
  ⟨s.pending, s.served ++ [⟨i, r⟩]⟩

/-- The one outcome of an operation: the next state, with its response in the record (R205). -/
def answer (i : Instr) (r : Response) (s : State) : Host.Outcome State Fault Refusal :=
  .next (recordServed i r s)

/-- A requester presents a request word: it waits behind those already presented (R226). -/
def present (w : ReqWord) (s : State) : State := ⟨s.pending ++ [w], s.served⟩

end Sys2Proof.Machine
end

