-- ==== Sys2Proof/Machine/Decoder.lean ====
section
/-! DEFINITION. The meanings of `DECODE_AXIS` and `DECODE` (42_decoder.md). Every 64-bit code is accepted (R151). -/
namespace Sys2Proof.Machine

/-- `DECODE_AXIS.X c` (R140). -/
def execDecodeAxisX (c : Code) (s : State) : Host.Outcome State Fault Refusal :=
  answer (.decodeAxisX c) (.component (decodeAxis .x c)) s

/-- `DECODE_AXIS.Y c` (R140). -/
def execDecodeAxisY (c : Code) (s : State) : Host.Outcome State Fault Refusal :=
  answer (.decodeAxisY c) (.component (decodeAxis .y c)) s

/-- `DECODE_AXIS.Z c` (R140). -/
def execDecodeAxisZ (c : Code) (s : State) : Host.Outcome State Fault Refusal :=
  answer (.decodeAxisZ c) (.component (decodeAxis .z c)) s

/-- `DECODE c` (R150). -/
def execDecode (c : Code) (s : State) : Host.Outcome State Fault Refusal :=
  answer (.decode c) (.triple (mortonDecode c)) s

end Sys2Proof.Machine
end

