-- ==== Sys2Proof/Machine/Encoder.lean ====
section
/-! DEFINITION. The meanings of `ENCODE_AXIS` and `ENCODE` (41_encoder.md). An operand outside the usable range has an
ordinary result: no check, no flag (R131). -/
namespace Sys2Proof.Machine

/-- `ENCODE_AXIS.X v` (R120). -/
def execEncodeAxisX (v : Component) (s : State) : Host.Outcome State Fault Refusal :=
  answer (.encodeAxisX v) (.code (encodeAxis .x v)) s

/-- `ENCODE_AXIS.Y v` (R120). -/
def execEncodeAxisY (v : Component) (s : State) : Host.Outcome State Fault Refusal :=
  answer (.encodeAxisY v) (.code (encodeAxis .y v)) s

/-- `ENCODE_AXIS.Z v` (R120). -/
def execEncodeAxisZ (v : Component) (s : State) : Host.Outcome State Fault Refusal :=
  answer (.encodeAxisZ v) (.code (encodeAxis .z v)) s

/-- `ENCODE x, y, z` (R128). -/
def execEncode (x y z : Component) (s : State) : Host.Outcome State Fault Refusal :=
  answer (.encode x y z) (.code (mortonEncode ⟨x, y, z⟩)) s

end Sys2Proof.Machine
end

