-- ==== Sys2Proof/Machine/Interleaver.lean ====
section
/-! DEFINITION. The meanings of `INTERLEAVE` and `PACK` (40_byte_interleaver.md). -/
namespace Sys2Proof.Machine

/-- `INTERLEAVE b` answers the table entry `ILV[b]` (R100, R104). -/
def execInterleave (b : Byte) (s : State) : Host.Outcome State Fault Refusal :=
  answer (.interleave b) (.tableWord (ilv b)) s

/-- `PACK.X b` (R108). -/
def execPackX (b : Byte) (s : State) : Host.Outcome State Fault Refusal :=
  answer (.packX b) (.tableWord (pack .x b)) s

/-- `PACK.Y b` (R108). -/
def execPackY (b : Byte) (s : State) : Host.Outcome State Fault Refusal :=
  answer (.packY b) (.tableWord (pack .y b)) s

/-- `PACK.Z b` (R108). -/
def execPackZ (b : Byte) (s : State) : Host.Outcome State Fault Refusal :=
  answer (.packZ b) (.tableWord (pack .z b)) s

end Sys2Proof.Machine
end

