-- ==== Sys2Proof/Machine/Dispatch.lean ====
section
/-! DEFINITION. One arm per operation, each a call of its meaning. -/
namespace Sys2Proof.Machine

def exec (i : Instr) (s : State) : Host.Outcome State Fault Refusal :=
  match i with
  | .interleave b => Sys2Proof.Machine.execInterleave b s
  | .packX b => Sys2Proof.Machine.execPackX b s
  | .packY b => Sys2Proof.Machine.execPackY b s
  | .packZ b => Sys2Proof.Machine.execPackZ b s
  | .encodeAxisX v => Sys2Proof.Machine.execEncodeAxisX v s
  | .encodeAxisY v => Sys2Proof.Machine.execEncodeAxisY v s
  | .encodeAxisZ v => Sys2Proof.Machine.execEncodeAxisZ v s
  | .decodeAxisX c => Sys2Proof.Machine.execDecodeAxisX c s
  | .decodeAxisY c => Sys2Proof.Machine.execDecodeAxisY c s
  | .decodeAxisZ c => Sys2Proof.Machine.execDecodeAxisZ c s
  | .encode x y z => Sys2Proof.Machine.execEncode x y z s
  | .decode c => Sys2Proof.Machine.execDecode c s

end Sys2Proof.Machine
end

