-- ==== Sys2Proof/Machine/Step.lean ====
section
/-! DEFINITION. One step: the next request word is decoded and its operation runs, as one atomic step (00_scope.md R11). -/
namespace Sys2Proof.Machine

/-- The next request word is taken from those presented and served. A word that spells no operation is refused by name
before any operation runs (R84, R199). DESIGN CHOICE (entry 4): with no request presented nothing happens, since the core
never faults and never waits (R205, R222). -/
def step (s : State) : Host.Outcome State Fault Refusal :=
  match s.pending with
  | [] => .next s
  | w :: rest =>
    match decodeWord w with
    | .error why => .refused (.illFormedRequest why)
    | .ok i => exec i ⟨rest, s.served⟩

/-- The state with the request word `w` presented ahead of all others, so that the next step serves it (entry 3). A number
that is no request word presents nothing. -/
def State.withFetchWord (s : State) (_nbits w : Nat) : State :=
  match readWord w with
  | .error _ => s
  | .ok r => ⟨r :: s.pending, s.served⟩

end Sys2Proof.Machine
end

