-- ==== Sys2Proof/Machine/Ports.lean ====
section
/-! DEFINITION. The three blocks as the ports show them: each output is, at every moment, a function of the inputs at that
moment; signals are not state (10_state.md R32, R217). The signal names are the spec's (92_eei_decisions.md D2). -/
namespace Sys2Proof.Machine

/-- The inputs of `morton_byte_interleaver` (R32). -/
structure InterleaverIn where
  b_i : Byte
deriving DecidableEq, Repr

/-- The outputs of `morton_byte_interleaver` (R32). -/
structure InterleaverOut where
  ilv_o : TableWord
deriving DecidableEq, Repr

/-- The inputs of `morton_encoder` (R32). -/
structure EncoderIn where
  x_i : Component
  y_i : Component
  z_i : Component
deriving DecidableEq, Repr

/-- The outputs of `morton_encoder` (R32). -/
structure EncoderOut where
  code_o : Code
deriving DecidableEq, Repr

/-- The inputs of `morton_decoder` (R32). -/
structure DecoderIn where
  code_i : Code
deriving DecidableEq, Repr

/-- The outputs of `morton_decoder` (R32). -/
structure DecoderOut where
  x_o : Component
  y_o : Component
  z_o : Component
deriving DecidableEq, Repr

/-- The block `morton_byte_interleaver`: `ilv_o = ILV[b_i]` (R32). -/
def mortonByteInterleaver (p : InterleaverIn) : InterleaverOut := ⟨ilv p.b_i⟩

/-- The block `morton_encoder`: `code_o = ENCODE(x_i, y_i, z_i)` (R32). -/
def mortonEncoder (p : EncoderIn) : EncoderOut := ⟨mortonEncode ⟨p.x_i, p.y_i, p.z_i⟩⟩

/-- The block `morton_decoder`: `(x_o, y_o, z_o) = DECODE(code_i)` (R32). -/
def mortonDecoder (p : DecoderIn) : DecoderOut :=
  ⟨(mortonDecode p.code_i).x, (mortonDecode p.code_i).y, (mortonDecode p.code_i).z⟩

/-- `code_o` of the encoder wired to `code_i` of the decoder (R223). -/
def encoderToDecoder (p : EncoderIn) : DecoderOut := mortonDecoder ⟨(mortonEncoder p).code_o⟩

/-- The decoder's outputs wired to the encoder's inputs (R223). -/
def decoderToEncoder (p : DecoderIn) : EncoderOut :=
  mortonEncoder ⟨(mortonDecoder p).x_o, (mortonDecoder p).y_o, (mortonDecoder p).z_o⟩

end Sys2Proof.Machine
end

