-- ==== Sys2Proof/Machine/Program.lean ====
section
/-! DEFINITION. A run as the spec presents it: a finite list of request words (70_reset_and_hazards.md R226). The two ways a
model may treat a program that holds an ill-formed word (95_test_vectors.md 3.6) are both here: `readProgram` refuses the
program before its first step, naming the word; `answers` serves it request by request, with no response for that word. -/
namespace Sys2Proof.Machine

/-- The response of an operation: a function of its operands alone (20_memory.md R59; 30_encoding.md R76, R82). -/
def responseOf : Instr → Response
  | .interleave b => .tableWord (interleave b)
  | .packX b => .tableWord (interleave b <<< 0)
  | .packY b => .tableWord (interleave b <<< 1)
  | .packZ b => .tableWord (interleave b <<< 2)
  | .encodeAxisX v => .code (encodeAxis .x v)
  | .encodeAxisY v => .code (encodeAxis .y v)
  | .encodeAxisZ v => .code (encodeAxis .z v)
  | .decodeAxisX c => .component (decodeAxis .x c)
  | .decodeAxisY c => .component (decodeAxis .y c)
  | .decodeAxisZ c => .component (decodeAxis .z c)
  | .encode x y z => .code (mortonEncode ⟨x, y, z⟩)
  | .decode c => .triple (mortonDecode c)

/-- The operations of a program, or the position (from 0) and the name of its first ill-formed word (R84, R199). -/
def readProgramFrom : Nat → List ReqWord → Except (Nat × Reject) (List Instr)
  | _, [] => .ok []
  | k, w :: ws =>
    match decodeWord w, readProgramFrom (k + 1) ws with
    | .error why, _ => .error (k, why)
    | .ok _, .error e => .error e
    | .ok i, .ok is => .ok (i :: is)

/-- A program read whole, before its first step (R84). -/
def readProgram (ws : List ReqWord) : Except (Nat × Reject) (List Instr) := readProgramFrom 0 ws

/-- The state with a program's requests presented, in order, behind those already presented; or the first ill-formed word,
named, and nothing presented (R84, R226). -/
def loadProgram (ws : List ReqWord) (s : State) : Except (Nat × Reject) State :=
  match readProgram ws with
  | .error e => .error e
  | .ok _ => .ok ⟨s.pending ++ ws, s.served⟩

/-- The responses of a list of request words served one by one: a word that spells no operation has none, and no word
affects another (R59; 95_test_vectors.md 3.6). -/
def answers (ws : List ReqWord) : List (Option Response) :=
  ws.map fun w => (decodeWord w).toOption.map responseOf

end Sys2Proof.Machine
end

