-- ==== Sys2Proof/Safety.lean ====
section
/-! DEFINITION. What counts as a safe run: no step of it is refused. A step can neither fault nor stick (60_exceptions.md
R205), so a run is unsafe only by a request word that spells no operation (R199). -/
namespace Sys2Proof

/-- The state a run of `k` steps ends in, if every step gave one. -/
def endState (k : Nat) (s : Machine.State) : Option Machine.State :=
  match Host.Core.run core k s with
  | .next t => some t
  | .fault _ => none
  | .refused _ => none

/-- A run of `k` steps is safe: every step answered a next state. -/
def safeRun (k : Nat) (s : Machine.State) : Bool := (endState k s).isSome

/-- Every waiting request word spells an operation (R83): the condition under which no step is refused. -/
def allWellFormed (s : Machine.State) : Bool := s.pending.all wellFormed

end Sys2Proof
end

