-- ==== Sys2Proof/Certificates/Slice0/Obligations.lean ====
section
/-! DEFINITION. The statements for the provers, by the rules of spec/ they formalise. An operation's next state is written
out: the requests still waiting as before, the record longer by one entry at its end. -/

open Sys2Proof Sys2Proof.Machine

/-! ### Requests, steps and runs -/

/-- A step runs the operation that the first waiting request word spells (R78). That the first of one list is the word
served next is the model's choice (entries 1 and 9): the spec leaves which runs next to the requester (R22), and no result
depends on it (R226). -/
def Obligations.StepRunsTheDecodedRequest : Prop :=
  ∀ (s : State) (w : ReqWord) (rest : List ReqWord) (i : Instr),
    s.pending = w :: rest → decodeWord w = .ok i → step s = exec i ⟨rest, s.served⟩

/-- R84 (a decision of the spec, D7): which words spell no operation, and that each is refused by name before any
operation runs. -/
def Obligations.IllFormedWordsAreRefusedByName : Prop :=
  (∀ w : ReqWord, wellFormed w = false ↔
    (6 ≤ (opField w).toNat ∨ axisField w = 3 ∨
      (axisField w ≠ 0 ∧ (opField w = 0 ∨ opField w = 4 ∨ opField w = 5)) ∨
      ((opField w = 0 ∨ opField w = 1) ∧ (payloadField w).extractLsb' 8 88 ≠ 0) ∨
      (opField w = 2 ∧ (payloadField w).extractLsb' 32 64 ≠ 0) ∨
      ((opField w = 3 ∨ opField w = 5) ∧ (payloadField w).extractLsb' 64 32 ≠ 0))) ∧
  (∀ w : ReqWord, wellFormed w = true → ∃ i, decodeWord w = .ok i) ∧
  (∀ w : ReqWord, wellFormed w = false → ∃ why, decodeWord w = .error why ∧
    ∀ (s : State) (rest : List ReqWord), s.pending = w :: rest → step s = .refused (.illFormedRequest why))

/-- The name a refused word gets (I8 to I11); that a word which breaks several checks is named by the first, in the order
op, axis, payload, is the model's choice (entry 6). -/
def Obligations.RefusalNamesTheFirstCheckBroken : Prop :=
  ∀ w : ReqWord,
    (6 ≤ (opField w).toNat → decodeWord w = .error .reservedOp) ∧
    ((opField w = 1 ∨ opField w = 2 ∨ opField w = 3) → axisField w = 3 → decodeWord w = .error .reservedAxis) ∧
    ((opField w = 0 ∨ opField w = 4 ∨ opField w = 5) → axisField w ≠ 0 → decodeWord w = .error .axisNotZero) ∧
    ((opField w = 0 ∧ axisField w = 0 ∨ opField w = 1 ∧ axisField w ≠ 3) →
      (payloadField w).extractLsb' 8 88 ≠ 0 → decodeWord w = .error .payloadNotZero) ∧
    (opField w = 2 → axisField w ≠ 3 →
      (payloadField w).extractLsb' 32 64 ≠ 0 → decodeWord w = .error .payloadNotZero) ∧
    ((opField w = 3 ∧ axisField w ≠ 3 ∨ opField w = 5 ∧ axisField w = 0) →
      (payloadField w).extractLsb' 64 32 ≠ 0 → decodeWord w = .error .payloadNotZero)

/-- R83 (a decision of the spec, D8): a word spells the operation of the row it matches; twelve rows, disjoint; the five
top bits are `op * 4 + axis`. -/
def Obligations.OpcodeTableFixesTheOperation : Prop :=
  (opcodeRows.map fun (r : OpcodeRow) => (r.mnemonic, r.pattern, r.mask)) =
    [("INTERLEAVE", 0x00000000000000000000000000#101, 0x1FFFFFFFFFFFFFFFFFFFFFFF00#101),
     ("PACK.X", 0x04000000000000000000000000#101, 0x1FFFFFFFFFFFFFFFFFFFFFFF00#101),
     ("PACK.Y", 0x05000000000000000000000000#101, 0x1FFFFFFFFFFFFFFFFFFFFFFF00#101),
     ("PACK.Z", 0x06000000000000000000000000#101, 0x1FFFFFFFFFFFFFFFFFFFFFFF00#101),
     ("ENCODE_AXIS.X", 0x08000000000000000000000000#101, 0x1FFFFFFFFFFFFFFFFF00000000#101),
     ("ENCODE_AXIS.Y", 0x09000000000000000000000000#101, 0x1FFFFFFFFFFFFFFFFF00000000#101),
     ("ENCODE_AXIS.Z", 0x0A000000000000000000000000#101, 0x1FFFFFFFFFFFFFFFFF00000000#101),
     ("DECODE_AXIS.X", 0x0C000000000000000000000000#101, 0x1FFFFFFFFF0000000000000000#101),
     ("DECODE_AXIS.Y", 0x0D000000000000000000000000#101, 0x1FFFFFFFFF0000000000000000#101),
     ("DECODE_AXIS.Z", 0x0E000000000000000000000000#101, 0x1FFFFFFFFF0000000000000000#101),
     ("ENCODE", 0x10000000000000000000000000#101, 0x1F000000000000000000000000#101),
     ("DECODE", 0x14000000000000000000000000#101, 0x1FFFFFFFFF0000000000000000#101)] ∧
  (∀ (r : OpcodeRow) (w : ReqWord), r.matchesWord w = (w &&& r.mask == r.pattern)) ∧
  (opcodeRows.map fun (r : OpcodeRow) => BitVec.toNat (r.pattern >>> 96)) =
    [0x00, 0x04, 0x05, 0x06, 0x08, 0x09, 0x0A, 0x0C, 0x0D, 0x0E, 0x10, 0x14] ∧
  (∀ w : ReqWord, (w >>> 96).toNat = (opField w).toNat * 4 + (axisField w).toNat) ∧
  (∀ w : ReqWord, ∀ r ∈ opcodeRows, ∀ r' ∈ opcodeRows, r.matchesWord w = true → r'.matchesWord w = true → r = r') ∧
  (∀ w : ReqWord, ∀ r ∈ opcodeRows, r.matchesWord w = true → ∃ i, decodeWord w = .ok i ∧ i.mnemonic = r.mnemonic) ∧
  (∀ (w : ReqWord) (i : Instr), decodeWord w = .ok i →
    ∃ r ∈ opcodeRows, r.matchesWord w = true ∧ r.mnemonic = i.mnemonic)

/-- Every operation, with every operand at every value, decodes from the word that encodes it (R78 to R80, R85). -/
def Obligations.DecodeInvertsEncodeWord : Prop :=
  ∀ i : Instr, decodeWord (encodeWord i) = .ok i

/-- A request word that decodes is the word of its operation: no bit of a legal word is without meaning (R80, R83). -/
def Obligations.EncodeWordInvertsDecode : Prop :=
  ∀ (w : ReqWord) (i : Instr), decodeWord w = .ok i → encodeWord i = w

/-- The request words of 95_test_vectors.md 2.8 (Q1 to Q7) and one more of each family, read as listed there. -/
def Obligations.SpecWordsDecodeAsListed : Prop :=
  decodeWord 0x000000000000000000000000A5#101 = .ok (.interleave 0xA5) ∧
  decodeWord 0x06000000000000000000000080#101 = .ok (.packZ 0x80) ∧
  decodeWord 0x08000000000000000000ABCDEF#101 = .ok (.encodeAxisX 0x00ABCDEF) ∧
  decodeWord 0x0D00000000BDC4DC3CFCCFBA04#101 = .ok (.decodeAxisY 0xBDC4DC3CFCCFBA04) ∧
  decodeWord 0x10000000030000000200000001#101 = .ok (.encode 1 2 3) ∧
  decodeWord 0x14000000000000000000000035#101 = .ok (.decode 0x35) ∧
  decodeWord 0x10FFFFFFFFFFFFFFFFFFFFFFFF#101 = .ok (.encode 0xFFFFFFFF 0xFFFFFFFF 0xFFFFFFFF)

/-- A number is read as the request word it is; one with a bit above bit 100 is no request word (95_test_vectors.md 2.8).
-/
def Obligations.TableNumbersAreReadAsRequestWords : Prop :=
  ∀ nbits n : Nat,
    (n < 2 ^ 101 → decodeTableWord nbits n = (decodeWord (BitVec.ofNat 101 n)).toOption) ∧
    (2 ^ 101 ≤ n → decodeTableWord nbits n = none)

/-- A request presented ahead of all others is the one the next step serves (entry 3). -/
def Obligations.PresentedFirstIsServedNext : Prop :=
  ∀ (s : State) (nbits n : Nat) (i : Instr),
    decodeTableWord nbits n = some i → step (s.withFetchWord nbits n) = exec i s

/-- With no request waiting a step changes nothing. The model's choice (entry 4). -/
def Obligations.IdleStepChangesNothing : Prop :=
  ∀ s : State, s.pending = [] → step s = .next s

/-- After reset no request waits and none has been served. The model's choice (entry 2); the core itself has nothing to
reset (R34). -/
def Obligations.ResetLeavesAnEmptyRecord : Prop :=
  State.reset.pending = [] ∧ State.reset.served = []

/-- The frame of all twelve operations (no rule states it; it follows from R20 to R25 and R51): the waiting requests are
unchanged and the record only gains the entry of this request. There is no other state: no register, flag or memory byte.
-/
def Obligations.OperationsOnlyExtendTheRecord : Prop :=
  ∀ (i : Instr) (s t : State), exec i s = .next t →
    t.pending = s.pending ∧ ∃ r : Response, t.served = s.served ++ [⟨i, r⟩]

/-- R190: no operation raises an exception, for any operand: each answers, with a result and nothing else, in every state;
and no step faults. -/
def Obligations.NoOperationRaisesAnException : Prop :=
  (∀ (i : Instr) (s : State), ∃ r : Response, exec i s = .next ⟨s.pending, s.served ++ [⟨i, r⟩]⟩) ∧
  (∀ (s : State) (f : Fault), step s ≠ .fault f)

/-- R205 (the spec's inference, from R190, R192, R199): a step that serves a request gives the next response; its only
other outcome is the refusal of a word that spells no operation. -/
def Obligations.StepAnswersOrRefusesTheWord : Prop :=
  ∀ (s : State) (w : ReqWord) (rest : List ReqWord), s.pending = w :: rest →
    (∃ i r, decodeWord w = .ok i ∧ step s = .next ⟨rest, s.served ++ [⟨i, r⟩]⟩) ∨
    (∃ why, decodeWord w = .error why ∧ step s = .refused (.illFormedRequest why))

/-- R59: the response of a request is a function of its operands alone, whatever the state; and requests served in another
order give the same responses. -/
def Obligations.OrderOfServiceChangesNoResponse : Prop :=
  (∀ i : Instr, ∃ r : Response, ∀ s : State, exec i s = .next ⟨s.pending, s.served ++ [⟨i, r⟩]⟩) ∧
  (∀ (ws ws' : List ReqWord) (old : List Served), ws.Perm ws' → ws.all wellFormed = true →
    ∃ new new' : List Served,
      endState ws.length ⟨ws, old⟩ = some ⟨[], old ++ new⟩ ∧
      endState ws'.length ⟨ws', old⟩ = some ⟨[], old ++ new'⟩ ∧
      new.Perm new')

/-- Every waiting well-formed request is served, each with the response of its own operands, and nothing is left waiting
(R222, R226). That they are served in the order of the list is the model's choice (entry 9). -/
def Obligations.RunServesEveryRequest : Prop :=
  ∀ s : State, allWellFormed s = true →
    ∃ is : List Instr, s.pending = is.map encodeWord ∧
      endState s.pending.length s = some ⟨[], s.served ++ is.map fun i => ⟨i, responseOf i⟩⟩

/-- Every step keeps the record true: each response in it is the one its own request fixes (R20, R35, R59). -/
def Obligations.StepKeepsTheRecordTrue : Prop :=
  ∀ s t : State, (∀ e ∈ s.served, e.response = responseOf e.request) → step s = .next t →
    ∀ e ∈ t.served, e.response = responseOf e.request

/-- The record is true right after reset, when it is empty: the model's choice (entry 2). -/
def Obligations.ResetRecordIsTrue : Prop :=
  ∀ e ∈ State.reset.served, e.response = responseOf e.request

/-- A program that holds an ill-formed word is refused whole, naming the first such word by its position from 0; one that
holds none is read as its operations (R84). Refusing whole is one of the two ways 95_test_vectors.md 3.6 allows; that, and
naming the first word, are the model's choice (entry 5). -/
def Obligations.ProgramRefusalNamesTheFirstBadWord : Prop :=
  (∀ (ws : List ReqWord) (k : Nat) (why : Reject), readProgram ws = .error (k, why) ↔
    ∃ w, ws[k]? = some w ∧ decodeWord w = .error why ∧ (ws.take k).all wellFormed = true) ∧
  (∀ (ws : List ReqWord) (is : List Instr), readProgram ws = .ok is ↔ ws.map decodeWord = is.map .ok)

/-- A program that loads after reset runs to its end, and its responses are those of its words taken one by one (R226). It
rests on the record being empty after reset, the model's choice (entry 2), and on requests being served in the order of
the list (entry 9). -/
def Obligations.LoadedProgramRunsToItsAnswers : Prop :=
  ∀ (ws : List ReqWord) (s : State), loadProgram ws .reset = .ok s →
    ∃ t : State, endState ws.length s = some t ∧ t.pending = [] ∧
      t.served.map (fun e => some e.response) = answers ws

/-- R82 (a decision of the spec, D8): the width of every response, and the layout of the 96-bit one. -/
def Obligations.ResponsesHaveTheirWidths : Prop :=
  (∀ (i : Instr) (s : State), ∃ r : Response, exec i s = .next ⟨s.pending, s.served ++ [⟨i, r⟩]⟩ ∧
    responseWidth r =
      (if i.mnemonic ∈ ["INTERLEAVE", "PACK.X", "PACK.Y", "PACK.Z"] then 24
       else if i.mnemonic ∈ ["ENCODE_AXIS.X", "ENCODE_AXIS.Y", "ENCODE_AXIS.Z", "ENCODE"] then 64
       else if i.mnemonic ∈ ["DECODE_AXIS.X", "DECODE_AXIS.Y", "DECODE_AXIS.Z"] then 32 else 96)) ∧
  (∀ w : TableWord, responseWord (.tableWord w) = w) ∧ (∀ c : Code, responseWord (.code c) = c) ∧
  (∀ v : Component, responseWord (.component v) = v) ∧
  (∀ t : Triple, (responseWord (.triple t)).extractLsb' 0 32 = t.x ∧
    (responseWord (.triple t)).extractLsb' 32 32 = t.y ∧ (responseWord (.triple t)).extractLsb' 64 32 = t.z)

/-! ### The byte interleaver and the packing tables -/

/-- R100: `INTERLEAVE b`. -/
def Obligations.InterleaveAnswersTheSpreadByte : Prop :=
  (∀ (b : Byte) (w : ReqWord), decodeWord w = .ok (.interleave b) ↔
    opField w = 0 ∧ axisField w = 0 ∧ payloadField w = b.setWidth 96) ∧
  (∀ (b : Byte) (s : State),
    exec (.interleave b) s = .next ⟨s.pending, s.served ++ [⟨.interleave b, .tableWord (interleave b)⟩]⟩) ∧
  (∀ b : Byte, (∀ i < 8, (interleave b).getLsbD (3 * i) = b.getLsbD i) ∧
    (∀ p, p % 3 ≠ 0 → (interleave b).getLsbD p = false) ∧ ilv b = interleave b ∧ interleave b ≤ 0x249249#24) ∧
  interleave 0x00 = 0x000000#24 ∧ interleave 0xFF = 0x249249#24 ∧ interleave 0x80 = 0x200000#24 ∧
  (∀ i < 8, interleave (1#8 <<< i) = 1#24 <<< (3 * i)) ∧ interleave 0xA5 = 0x208041#24

/-- R101, R104: the four levels of the algorithm, and that the table holds both what they give and what the contract says.
-/
def Obligations.TableIsTheAlgorithm : Prop :=
  (∀ b : Byte,
    interleaveW1 b = (b.setWidth 32 ||| b.setWidth 32 <<< 16) &&& 0xFF0000FF ∧
    interleaveW2 b = (interleaveW1 b ||| interleaveW1 b <<< 8) &&& 0x0F00F00F ∧
    interleaveW3 b = (interleaveW2 b ||| interleaveW2 b <<< 4) &&& 0xC30C30C3 ∧
    interleaveAlg b = (interleaveW3 b ||| interleaveW3 b <<< 2) &&& 0x49249249) ∧
  (∀ b : Byte, ilv b = interleave b ∧ ilv b = (interleaveAlg b).setWidth 24)

/-- R102, R103, R105 (the spec's inferences, from R100 and R101): the bits each mask keeps, where each input bit stands
after each level, that the algorithm meets the contract, and that bits 31:22 of its word are 0. -/
def Obligations.LevelsSpreadTheByte : Prop :=
  (∀ p < 32, im4.getLsbD p = decide (p < 8 ∨ 24 ≤ p) ∧ im3.getLsbD p = decide (p % 12 < 4) ∧
    im2.getLsbD p = decide (p % 6 < 2) ∧ im1.getLsbD p = decide (p % 3 = 0)) ∧
  (∀ b : Byte, interleaveW1 b = widenByte b ∧
    ∀ p < 32,
      (interleaveW2 b).getLsbD p =
        (if p < 4 then b.getLsbD p else if 12 ≤ p ∧ p < 16 then b.getLsbD (p - 8) else false) ∧
      (interleaveW3 b).getLsbD p = (if p % 6 < 2 then b.getLsbD (2 * (p / 6) + p % 6) else false) ∧
      (interleaveAlg b).getLsbD p = (if p % 3 = 0 then b.getLsbD (p / 3) else false)) ∧
  widenByte 0xFF = 0x000000FF#32 ∧ interleaveW1 0xFF = 0x000000FF#32 ∧ interleaveW2 0xFF = 0x0000F00F#32 ∧
  interleaveW3 0xFF = 0x000C30C3#32 ∧ interleaveAlg 0xFF = 0x00249249#32 ∧
  (∀ b : Byte, (interleaveAlg b).toNat = (interleave b).toNat ∧ interleaveAlg b &&& 0xFFC00000#32 = 0 ∧
    (ilv b).toNat = (interleaveAlg b).toNat ∧ ilv b &&& 0xC00000#24 = 0)

/-- R106 (the spec's inference, from R100): the laws of `INTERLEAVE`. -/
def Obligations.InterleaveLaws : Prop :=
  ∀ p q : Byte,
    interleave (p ||| q) = interleave p ||| interleave q ∧ interleave (p &&& q) = interleave p &&& interleave q ∧
    (interleave p = interleave q → p = q) ∧ (p < q ↔ interleave p < interleave q) ∧
    (List.range 24).countP (fun i => (interleave p).getLsbD i) = (List.range 8).countP (fun i => p.getLsbD i) ∧
    interleave p &&& 0xDB6DB6#24 = 0

/-- R108, R72: `PACK.a b`, and where the bits of its word stand. -/
def Obligations.PackAnswersTheShiftedEntry : Prop :=
  (∀ (b : Byte) (w : ReqWord),
    (decodeWord w = .ok (.packX b) ↔ opField w = 1 ∧ axisField w = 0 ∧ payloadField w = b.setWidth 96) ∧
    (decodeWord w = .ok (.packY b) ↔ opField w = 1 ∧ axisField w = 1 ∧ payloadField w = b.setWidth 96) ∧
    (decodeWord w = .ok (.packZ b) ↔ opField w = 1 ∧ axisField w = 2 ∧ payloadField w = b.setWidth 96)) ∧
  (∀ (b : Byte) (s : State),
    exec (.packX b) s = .next ⟨s.pending, s.served ++ [⟨.packX b, .tableWord (ilv b <<< 0)⟩]⟩ ∧
    exec (.packY b) s = .next ⟨s.pending, s.served ++ [⟨.packY b, .tableWord (ilv b <<< 1)⟩]⟩ ∧
    exec (.packZ b) s = .next ⟨s.pending, s.served ++ [⟨.packZ b, .tableWord (ilv b <<< 2)⟩]⟩) ∧
  (∀ (a : Axis) (b : Byte), pack a b = ilv b <<< lane a ∧ ∀ p < 24,
    (ilv b <<< lane a).getLsbD p = if p % 3 = lane a then b.getLsbD (p / 3) else false) ∧
  (∀ a : Axis, pack a 0x00 = 0) ∧ (∀ b : Byte, pack .x b = interleave b) ∧
  pack .z 0xFF = 0x924924#24 ∧ pack .z 0x80 = 0x800000#24 ∧ pack .y 0xA5 = 0x410082#24

/-- R110 (the spec's inference, from R105 and R108): the lane shift loses nothing. -/
def Obligations.LaneShiftLosesNothing : Prop :=
  (∀ (a : Axis) (b : Byte), (∀ p, 21 < p → (ilv b).getLsbD p = false) ∧ (∀ p, 23 < p → (pack a b).getLsbD p = false) ∧
    lane a ≤ 2 ∧ (pack a b).toNat = (ilv b).toNat * 2 ^ lane a) ∧
  (ilv 0x80).getLsbD 21 = true ∧ (pack .z 0x80).getLsbD 23 = true

/-- R111 (the spec's inference, from R106 and R108): the laws of `PACK`. -/
def Obligations.PackLaws : Prop :=
  (∀ (a : Axis) (p q : Byte), pack a (p ||| q) = pack a p ||| pack a q) ∧
  (∀ (a a' : Axis) (p q : Byte), a ≠ a' → pack a p &&& pack a' q = 0) ∧
  (∀ (p q r : Byte), ∀ i < 8,
    (pack .x p ||| pack .y q ||| pack .z r).getLsbD (3 * i) = p.getLsbD i ∧
    (pack .x p ||| pack .y q ||| pack .z r).getLsbD (3 * i + 1) = q.getLsbD i ∧
    (pack .x p ||| pack .y q ||| pack .z r).getLsbD (3 * i + 2) = r.getLsbD i)

/-- R26, R27 (the listings are the spec's computation): the listed contents of the tables are what the formulas give, for
all 256 indices. -/
def Obligations.TablesHoldTheirListing : Prop :=
  ilvTable.length = Config.tableEntries ∧ packYTable.length = Config.tableEntries ∧
  packZTable.length = Config.tableEntries ∧
  (∀ b : Byte, ilvTable[b.toNat]? = some (ilv b) ∧ packYTable[b.toNat]? = some (pack .y b) ∧
    packZTable[b.toNat]? = some (pack .z b) ∧ pack .x b = ilv b ∧
    ilv b = ((List.range 8).map fun i => (BitVec.ofBool (b.getLsbD i)).setWidth 24 <<< (3 * i)).sum ∧
    pack .y b = ilv b <<< 1 ∧ pack .z b = ilv b <<< 2) ∧
  (∀ b : Byte, ilv b ≤ 0x249249#24 ∧ pack .y b ≤ 0x492492#24 ∧ pack .z b ≤ 0x924924#24) ∧
  ilv 0xFF = 0x249249#24 ∧ pack .x 0xFF = 0x249249#24 ∧ pack .y 0xFF = 0x492492#24 ∧ pack .z 0xFF = 0x924924#24 ∧
  (∀ b : Byte, ilv b &&& 0xC00000#24 = 0) ∧
  (∀ b : Byte, ∀ i < 8, (ilv b).getLsbD (3 * i) = b.getLsbD i ∧ (pack .y b).getLsbD (3 * i + 1) = b.getLsbD i ∧
    (pack .z b).getLsbD (3 * i + 2) = b.getLsbD i)

/-! ### The encoder -/

/-- R120, R121: `ENCODE_AXIS.a v`. -/
def Obligations.EncodeAxisAnswersThePlacedWords : Prop :=
  (∀ (v : Component) (w : ReqWord),
    (decodeWord w = .ok (.encodeAxisX v) ↔ opField w = 2 ∧ axisField w = 0 ∧ payloadField w = v.setWidth 96) ∧
    (decodeWord w = .ok (.encodeAxisY v) ↔ opField w = 2 ∧ axisField w = 1 ∧ payloadField w = v.setWidth 96) ∧
    (decodeWord w = .ok (.encodeAxisZ v) ↔ opField w = 2 ∧ axisField w = 2 ∧ payloadField w = v.setWidth 96)) ∧
  (∀ (v : Component) (s : State),
    exec (.encodeAxisX v) s = .next ⟨s.pending, s.served ++ [⟨.encodeAxisX v, .code (encodeAxis .x v)⟩]⟩ ∧
    exec (.encodeAxisY v) s = .next ⟨s.pending, s.served ++ [⟨.encodeAxisY v, .code (encodeAxis .y v)⟩]⟩ ∧
    exec (.encodeAxisZ v) s = .next ⟨s.pending, s.served ++ [⟨.encodeAxisZ v, .code (encodeAxis .z v)⟩]⟩) ∧
  (∀ (a : Axis) (v : Component), encodeAxis a v =
    ((pack a (v.extractLsb' 16 8)).setWidth 64 <<< 48) ||| ((pack a (v.extractLsb' 8 8)).setWidth 64 <<< 24) |||
      (pack a (v.extractLsb' 0 8)).setWidth 64) ∧
  (∀ a : Axis, encodeAxis a 0 = 0 ∧ encodeAxis a 0xFFFFFFFF = lanepos a ∧ encodeAxis a 0x00400000 = 0 ∧
    encodeAxis a 0x00800000 = 0 ∧ ∀ v : Component, v &&& 0x00FFFFFF = 0 → encodeAxis a v = 0) ∧
  lanepos .x = 0x9249249249249249 ∧ lanepos .y = 0x2492492492492492 ∧ lanepos .z = 0x4924924924924924 ∧
  encodeAxis .x 0x00200000 = 0x8000000000000000 ∧ encodeAxis .y 0x00200000 = 0 ∧ encodeAxis .z 0x00200000 = 0 ∧
  pack .x 0xEF = 0x248249 ∧ pack .x 0xCD = 0x240241 ∧ pack .x 0xAB = 0x208209 ∧
  widenWord 0x248249 = 0x0000000000248249 ∧ widenWord 0x240241 <<< 24 = 0x0000240241000000 ∧
  widenWord 0x208209 <<< 48 = 0x8209000000000000 ∧ encodeAxis .x 0x00ABCDEF = 0x8209240241248249

/-- R123 (a decision of the spec, D5): where the three words land, what is discarded, and that they never meet. -/
def Obligations.PlacedWordsNeverCollide : Prop :=
  ∀ t u v : TableWord,
    (∀ p, 24 ≤ p → (widenWord t).getLsbD p = false) ∧
    (∀ p, p < 24 ∨ 48 ≤ p → (widenWord u <<< 24).getLsbD p = false) ∧
    (∀ p, p < 48 → (widenWord v <<< 48).getLsbD p = false) ∧
    (∀ j < 24, (widenWord t).getLsbD j = t.getLsbD j ∧ (widenWord u <<< 24).getLsbD (24 + j) = u.getLsbD j) ∧
    (∀ j < 16, (widenWord v <<< 48).getLsbD (48 + j) = v.getLsbD j) ∧
    widenWord v <<< 48 = widenWord (v &&& 0x00FFFF#24) <<< 48 ∧
    (∀ (a : Axis) (b : Byte), ∀ i < 8, 16 ≤ 3 * i + lane a →
      (pack a b &&& 0xFF0000#24).getLsbD (3 * i + lane a) = b.getLsbD i) ∧
    widenWord t &&& (widenWord u <<< 24) = 0 ∧ widenWord t &&& (widenWord v <<< 48) = 0 ∧
    (widenWord u <<< 24) &&& (widenWord v <<< 48) = 0

/-- R125 (the spec's inference, from R120 and R123): `ENCODE_AXIS` in closed form, bit by bit and as a sum. -/
def Obligations.EncodeAxisClosedForm : Prop :=
  ∀ (a : Axis) (v : Component),
    (∀ p < 64, (encodeAxis a v).getLsbD p = if p % 3 = lane a then v.getLsbD ((p - lane a) / 3) else false) ∧
    (∀ p < 64, p % 3 = lane a → (p - lane a) / 3 ≤ if a = .x then 21 else 20) ∧
    (encodeAxis a v).toNat = ∑ k ∈ Finset.range 24,
      if 3 * k + lane a ≤ 63 then (v.getLsbD k).toNat * 2 ^ (3 * k + lane a) else 0

/-- R126 (the spec's inference, from R120, R121, R123): the fate of each of the 32 component bits; the operation depends
on the kept bits only. -/
def Obligations.FateOfEveryComponentBit : Prop :=
  (∀ a : Axis, ∀ k < 32, encodeAxis a (1#32 <<< k) =
    if k ≤ 20 ∨ (k = 21 ∧ a = .x) then 1#64 <<< (3 * k + lane a) else 0) ∧
  (∀ (a : Axis) (v : Component), encodeAxis a v = encodeAxis a (v &&& keep a)) ∧
  (∀ (a : Axis) (v w : Component), v &&& 0x00FFFFFF = w &&& 0x00FFFFFF →
    lowByte v = lowByte w ∧ middleByte v = middleByte w ∧ highByte v = highByte w ∧ encodeAxis a v = encodeAxis a w) ∧
  keep .x = 0x3FFFFF ∧ keep .y = 0x1FFFFF ∧ keep .z = 0x1FFFFF ∧
  pack .x 0x20 = 0x008000#24 ∧ widenWord 0x008000#24 <<< 48 = 0x8000000000000000

/-- R127 (the spec's inference, from R125): the laws of `ENCODE_AXIS`. -/
def Obligations.EncodeAxisLaws : Prop :=
  (∀ (a : Axis) (v : Component), encodeAxis a v = encodeAxis a (v &&& keep a) ∧ encodeAxis a v &&& ~~~lanepos a = 0) ∧
  (∀ (a : Axis) (v w : Component), encodeAxis a (v ||| w) = encodeAxis a v ||| encodeAxis a w) ∧
  (∀ (a a' : Axis) (v w : Component), a ≠ a' → encodeAxis a v &&& encodeAxis a' w = 0) ∧
  (∀ (a : Axis) (v w : Component), v.toNat < (if a = .x then 2 ^ 22 else 2 ^ 21) →
    w.toNat < (if a = .x then 2 ^ 22 else 2 ^ 21) →
    (encodeAxis a v = encodeAxis a w → v = w) ∧ (v < w ↔ encodeAxis a v < encodeAxis a w)) ∧
  (∀ v : Component, encodeAxis .y v = encodeAxis .x (v &&& 0x1FFFFF) <<< 1 ∧
    encodeAxis .z v = encodeAxis .x (v &&& 0x1FFFFF) <<< 2)

/-- R128: `ENCODE x, y, z`. -/
def Obligations.EncodeAnswersTheOrOfThree : Prop :=
  (∀ (x y z : Component) (w : ReqWord), decodeWord w = .ok (.encode x y z) ↔
    opField w = 4 ∧ axisField w = 0 ∧ (payloadField w).extractLsb' 0 32 = x ∧
      (payloadField w).extractLsb' 32 32 = y ∧ (payloadField w).extractLsb' 64 32 = z) ∧
  (∀ (x y z : Component) (s : State), exec (.encode x y z) s =
    .next ⟨s.pending, s.served ++
      [⟨.encode x y z, .code (encodeAxis .x x ||| encodeAxis .y y ||| encodeAxis .z z)⟩]⟩) ∧
  (∀ t : Triple, mortonEncode t = encodeAxis .x t.x ||| encodeAxis .y t.y ||| encodeAxis .z t.z) ∧
  mortonEncode ⟨0, 0, 0⟩ = 0 ∧ mortonEncode ⟨0x1FFFFF, 0x1FFFFF, 0x1FFFFF⟩ = 0x7FFFFFFFFFFFFFFF ∧
  mortonEncode ⟨0xFFFFFFFF, 0xFFFFFFFF, 0xFFFFFFFF⟩ = 0xFFFFFFFFFFFFFFFF ∧
  mortonEncode ⟨0x200000, 0, 0⟩ = 0x8000000000000000 ∧ mortonEncode ⟨0, 0x200000, 0⟩ = 0 ∧
  mortonEncode ⟨0, 0, 0x200000⟩ = 0 ∧ mortonEncode ⟨1, 2, 3⟩ = 0x35

/-- R129 (the spec's inference, from R127): the OR of the contributions is their sum and their exclusive OR, and each can
be read back. -/
def Obligations.ContributionsAreDisjoint : Prop :=
  ∀ t : Triple,
    mortonEncode t = encodeAxis .x t.x + encodeAxis .y t.y + encodeAxis .z t.z ∧
    (mortonEncode t).toNat = (encodeAxis .x t.x).toNat + (encodeAxis .y t.y).toNat + (encodeAxis .z t.z).toNat ∧
    mortonEncode t = encodeAxis .x t.x ^^^ encodeAxis .y t.y ^^^ encodeAxis .z t.z ∧
    mortonEncode t &&& lanepos .x = encodeAxis .x t.x ∧ mortonEncode t &&& lanepos .y = encodeAxis .y t.y ∧
    mortonEncode t &&& lanepos .z = encodeAxis .z t.z

/-- R73: code bit `p` is bit `p div 3` of the component with lane offset `p mod 3`, in what `ENCODE` answers and in what
`DECODE` answers; that code bit 63 is bit 21 of X is entry 7. That component bits with no code bit decode to 0 is the
spec's inference (R147, R148). -/
def Obligations.EachCodeBitIsOneComponentBit : Prop :=
  (∀ (x y z : Component) (s : State), ∃ c : Code,
    exec (.encode x y z) s = .next ⟨s.pending, s.served ++ [⟨.encode x y z, .code c⟩]⟩ ∧
    ∀ p < 64, c.getLsbD p =
      if p % 3 = 0 then x.getLsbD (p / 3) else if p % 3 = 1 then y.getLsbD (p / 3) else z.getLsbD (p / 3)) ∧
  (∀ (c : Code) (s : State), ∃ t : Triple,
    exec (.decode c) s = .next ⟨s.pending, s.served ++ [⟨.decode c, .triple t⟩]⟩ ∧
    (∀ p < 64, c.getLsbD p =
      if p % 3 = 0 then t.x.getLsbD (p / 3) else if p % 3 = 1 then t.y.getLsbD (p / 3) else t.z.getLsbD (p / 3)) ∧
    (∀ k, 22 ≤ k → t.x.getLsbD k = false) ∧ (∀ k, 21 ≤ k → t.y.getLsbD k = false ∧ t.z.getLsbD k = false))

/-- R74 (the spec's inference, from R73): the lane positions are three disjoint sets that cover the code; the kept
component bits. -/
def Obligations.LanesPartitionTheCode : Prop :=
  (∀ a : Axis, ∀ p < 64, (lanepos a).getLsbD p = decide (p % 3 = lane a)) ∧
  lanepos .x &&& lanepos .y = 0 ∧ lanepos .x &&& lanepos .z = 0 ∧ lanepos .y &&& lanepos .z = 0 ∧
  lanepos .x ||| lanepos .y ||| lanepos .z = 0xFFFFFFFFFFFFFFFF ∧
  lanepos .x = 0x9249249249249249 ∧ lanepos .y = 0x2492492492492492 ∧ lanepos .z = 0x4924924924924924 ∧
  lanepos .x = dm0 ∧ keep .x = 0x003FFFFF ∧ keep .y = 0x001FFFFF ∧ keep .z = 0x001FFFFF

/-! ### The decoder -/

/-- R140, R142: `DECODE_AXIS.a c`. -/
def Obligations.DecodeAxisAnswersTheCascade : Prop :=
  (∀ (c : Code) (w : ReqWord),
    (decodeWord w = .ok (.decodeAxisX c) ↔ opField w = 3 ∧ axisField w = 0 ∧ payloadField w = c.setWidth 96) ∧
    (decodeWord w = .ok (.decodeAxisY c) ↔ opField w = 3 ∧ axisField w = 1 ∧ payloadField w = c.setWidth 96) ∧
    (decodeWord w = .ok (.decodeAxisZ c) ↔ opField w = 3 ∧ axisField w = 2 ∧ payloadField w = c.setWidth 96)) ∧
  (∀ (c : Code) (s : State),
    exec (.decodeAxisX c) s = .next ⟨s.pending, s.served ++ [⟨.decodeAxisX c, .component (decodeAxis .x c)⟩]⟩ ∧
    exec (.decodeAxisY c) s = .next ⟨s.pending, s.served ++ [⟨.decodeAxisY c, .component (decodeAxis .y c)⟩]⟩ ∧
    exec (.decodeAxisZ c) s = .next ⟨s.pending, s.served ++ [⟨.decodeAxisZ c, .component (decodeAxis .z c)⟩]⟩) ∧
  (∀ (a : Axis) (c : Code),
    cascadeS0 a c = c >>> lane a ∧
    cascadeS1 a c = cascadeS0 a c &&& 0x9249249249249249 ∧
    cascadeS2 a c = (cascadeS1 a c ||| cascadeS1 a c >>> 2) &&& 0x30C30C30C30C30C3 ∧
    cascadeS3 a c = (cascadeS2 a c ||| cascadeS2 a c >>> 4) &&& 0xF00F00F00F00F00F ∧
    cascadeS4 a c = (cascadeS3 a c ||| cascadeS3 a c >>> 8) &&& 0x00FF0000FF0000FF ∧
    cascadeS5 a c = (cascadeS4 a c ||| cascadeS4 a c >>> 16) &&& 0xFFFF00000000FFFF ∧
    cascadeS6 a c = (cascadeS5 a c ||| cascadeS5 a c >>> 32) &&& 0x00000000FFFFFFFF ∧
    decodeAxis a c = (cascadeS6 a c).setWidth 32) ∧
  (∀ a : Axis, decodeAxis a 0 = 0 ∧ ∀ c : Code, c &&& lanepos a = 0 → decodeAxis a c = 0) ∧
  decodeAxis .x 0xFFFFFFFFFFFFFFFF = 0x003FFFFF ∧ decodeAxis .y 0xFFFFFFFFFFFFFFFF = 0x001FFFFF ∧
  decodeAxis .z 0xFFFFFFFFFFFFFFFF = 0x001FFFFF ∧ decodeAxis .x 0x8000000000000000 = 0x00200000 ∧
  decodeAxis .y 0x8000000000000000 = 0 ∧ decodeAxis .z 0x8000000000000000 = 0 ∧
  cascadeS0 .x 0x8209240241248249 = 0x8209240241248249 ∧
  cascadeS1 .x 0x8209240241248249 = 0x8209240241248249 ∧ cascadeS2 .x 0x8209240241248249 = 0x20830C00C10C20C3 ∧
  cascadeS3 .x 0x8209240241248249 = 0x200B00C00D00E00F ∧ cascadeS4 .x 0x8209240241248249 = 0x002B0000CD0000EF ∧
  cascadeS5 .x 0x8209240241248249 = 0x002B00000000CDEF ∧ cascadeS6 .x 0x8209240241248249 = 0x00000000002BCDEF ∧
  decodeAxis .x 0x8209240241248249 = 0x002BCDEF

/-- R141: the lane shift brings the axis to the multiples of 3, zeros entering at the top. -/
def Obligations.LaneShiftAlignsTheAxis : Prop :=
  (∀ (a : Axis) (c : Code), cascadeS0 a c = c >>> lane a ∧
    ∀ k : Nat, (cascadeS0 a c).getLsbD (3 * k) = c.getLsbD (3 * k + lane a)) ∧
  (∀ c : Code, cascadeS0 .x c = c ∧ (cascadeS0 .y c).getLsbD 63 = false ∧ (cascadeS0 .z c).getLsbD 63 = false ∧
    (cascadeS0 .z c).getLsbD 62 = false)

/-- R143 (the spec's inference, from R140): the bits each mask keeps, and where each bit of the wanted axis stands after
each step; every other bit is 0. -/
def Obligations.CascadeGathersTheAxis : Prop :=
  (∀ p < 64, dm0.getLsbD p = decide (p % 3 = 0) ∧ dm1.getLsbD p = decide (p % 6 < 2) ∧
    dm2.getLsbD p = decide (p % 12 < 4) ∧ dm3.getLsbD p = decide (p % 24 < 8) ∧
    dm4.getLsbD p = decide (p < 16 ∨ 48 ≤ p) ∧ dm5.getLsbD p = decide (p < 32)) ∧
  (∀ (a : Axis) (c : Code), ∀ p < 64,
    (cascadeS1 a c).getLsbD p = (if p % 3 = 0 then (cascadeS0 a c).getLsbD (3 * (p / 3)) else false) ∧
    (cascadeS2 a c).getLsbD p =
      (if p % 6 < 2 then (cascadeS0 a c).getLsbD (3 * (2 * (p / 6) + p % 6)) else false) ∧
    (cascadeS3 a c).getLsbD p =
      (if p % 12 < 4 then (cascadeS0 a c).getLsbD (3 * (4 * (p / 12) + p % 12)) else false) ∧
    (cascadeS4 a c).getLsbD p =
      (if p % 24 < 8 then (cascadeS0 a c).getLsbD (3 * (8 * (p / 24) + p % 24)) else false) ∧
    (cascadeS5 a c).getLsbD p =
      (if p < 16 then (cascadeS0 a c).getLsbD (3 * p)
       else if 48 ≤ p then (cascadeS0 a c).getLsbD (3 * (p - 32)) else false) ∧
    (cascadeS6 a c).getLsbD p = (if p < 32 then (cascadeS0 a c).getLsbD (3 * p) else false)) ∧
  cascadeS1 .x 0xFFFFFFFFFFFFFFFF = 0x9249249249249249 ∧ cascadeS2 .x 0xFFFFFFFFFFFFFFFF = 0x30C30C30C30C30C3 ∧
  cascadeS3 .x 0xFFFFFFFFFFFFFFFF = 0x300F00F00F00F00F ∧ cascadeS4 .x 0xFFFFFFFFFFFFFFFF = 0x003F0000FF0000FF ∧
  cascadeS5 .x 0xFFFFFFFFFFFFFFFF = 0x003F00000000FFFF ∧ cascadeS6 .x 0xFFFFFFFFFFFFFFFF = 0x00000000003FFFFF

/-- R146: the low 32 bits of the last step are the result; the bits above them are 0, so nothing is lost. -/
def Obligations.NarrowingLosesNothing : Prop :=
  ∀ (a : Axis) (c : Code),
    decodeAxis a c = (cascadeS6 a c).setWidth 32 ∧ (∀ p, 32 ≤ p → (cascadeS6 a c).getLsbD p = false) ∧
    (decodeAxis a c).toNat = (cascadeS6 a c).toNat

/-- R147, R148 (the spec's inferences, from R141 and R143): the component each `DECODE_AXIS` answers, bit by bit, and that
it never exceeds the kept bits of its axis. -/
def Obligations.DecodeAxisClosedForm : Prop :=
  (∀ (c : Code) (s : State), ∃ vx vy vz : Component,
    exec (.decodeAxisX c) s = .next ⟨s.pending, s.served ++ [⟨.decodeAxisX c, .component vx⟩]⟩ ∧
    exec (.decodeAxisY c) s = .next ⟨s.pending, s.served ++ [⟨.decodeAxisY c, .component vy⟩]⟩ ∧
    exec (.decodeAxisZ c) s = .next ⟨s.pending, s.served ++ [⟨.decodeAxisZ c, .component vz⟩]⟩ ∧
    ∀ k < 32, vx.getLsbD k = (if 3 * k ≤ 63 then c.getLsbD (3 * k) else false) ∧
      vy.getLsbD k = (if 3 * k + 1 ≤ 63 then c.getLsbD (3 * k + 1) else false) ∧
      vz.getLsbD k = (if 3 * k + 2 ≤ 63 then c.getLsbD (3 * k + 2) else false)) ∧
  (∀ a : Axis, ∀ k < 32, 3 * k + lane a ≤ 63 ↔ k ≤ if a = .x then 21 else 20) ∧
  (∀ (a : Axis) (c : Code), (∀ k, 21 < k → (decodeAxis a c).getLsbD k = false) ∧
    (a ≠ .x → (decodeAxis a c).getLsbD 21 = false) ∧ decodeAxis a c ≤ keep a)

/-- R149 (the spec's inference, from R148): code bit 63 reaches the X result as bit 21, and no other axis sees it. -/
def Obligations.TopCodeBitIsSeenByXOnly : Prop :=
  ∀ c : Code,
    (decodeAxis .x c).getLsbD 21 = c.getLsbD 63 ∧
    (∀ a : Axis, a ≠ .x → decodeAxis a (c ^^^ 0x8000000000000000) = decodeAxis a c) ∧
    (cascadeS0 .y c).getLsbD 62 = c.getLsbD 63 ∧ (cascadeS0 .z c).getLsbD 61 = c.getLsbD 63 ∧
    decodeAxis .x 0x8000000000000000 = 0x00200000 ∧ dm0.getLsbD 63 = true ∧ dm0.getLsbD 62 = false ∧ dm0.getLsbD 61 = false

/-- R152 (the spec's inference, from R148 and R125): the laws of `DECODE_AXIS`. -/
def Obligations.DecodeAxisLaws : Prop :=
  (∀ (a : Axis) (c e : Code), decodeAxis a c = decodeAxis a (c &&& lanepos a) ∧
    decodeAxis a (c ||| e) = decodeAxis a c ||| decodeAxis a e ∧ encodeAxis a (decodeAxis a c) = c &&& lanepos a) ∧
  (∀ (a : Axis) (v : Component), decodeAxis a (encodeAxis a v) = v &&& keep a) ∧
  (∀ (a a' : Axis) (v : Component), a' ≠ a → decodeAxis a' (encodeAxis a v) = 0) ∧
  (∀ c : Code, decodeAxis .y c = decodeAxis .x (c >>> 1) ∧ decodeAxis .z c = decodeAxis .x (c >>> 2))

/-- R150: `DECODE c`. -/
def Obligations.DecodeAnswersTheTriple : Prop :=
  (∀ (c : Code) (w : ReqWord), decodeWord w = .ok (.decode c) ↔
    opField w = 5 ∧ axisField w = 0 ∧ payloadField w = c.setWidth 96) ∧
  (∀ (c : Code) (s : State), exec (.decode c) s =
    .next ⟨s.pending, s.served ++ [⟨.decode c, .triple ⟨decodeAxis .x c, decodeAxis .y c, decodeAxis .z c⟩⟩]⟩) ∧
  mortonDecode 0 = ⟨0, 0, 0⟩ ∧ mortonDecode 0x7FFFFFFFFFFFFFFF = ⟨0x1FFFFF, 0x1FFFFF, 0x1FFFFF⟩ ∧
  mortonDecode 0xFFFFFFFFFFFFFFFF = ⟨0x3FFFFF, 0x1FFFFF, 0x1FFFFF⟩ ∧
  mortonDecode 0x8000000000000000 = ⟨0x200000, 0, 0⟩ ∧ mortonDecode 0x35 = ⟨1, 2, 3⟩ ∧
  (∀ c : Code, mortonDecode c = ⟨decodeAxis .x c, decodeAxis .y c, decodeAxis .z c⟩)

/-! ### The invariant and the testable properties -/

/-- R160: the round trip on the range the document calls valid. -/
def Obligations.RoundTripOnTheValidRange : Prop :=
  ∀ t : Triple, t.x.toNat < 2 ^ 21 → t.y.toNat < 2 ^ 21 → t.z.toNat < 2 ^ 21 → mortonDecode (mortonEncode t) = t

/-- R161 (the spec's inference, from R130 and R148): the round trip on all inputs; the document's sentence holds exactly
when bit 21 of X is 0, and always for Y and Z. -/
def Obligations.RoundTripOnAllInputs : Prop :=
  (∀ t : Triple, mortonDecode (mortonEncode t) = ⟨t.x &&& 0x003FFFFF, t.y &&& 0x001FFFFF, t.z &&& 0x001FFFFF⟩) ∧
  (∀ t : Triple, mortonDecode (mortonEncode t) = t.maskEach 0x1FFFFF ↔ t.x.getLsbD 21 = false) ∧
  (∀ t : Triple, (t.x.getLsbD 21 = true → (mortonDecode (mortonEncode t)).x.getLsbD 21 = true) ∧
    (mortonDecode (mortonEncode t)).y = t.y &&& 0x1FFFFF ∧ (mortonDecode (mortonEncode t)).z = t.z &&& 0x1FFFFF) ∧
  mortonEncode ⟨0x00200000, 0, 0⟩ = 0x8000000000000000 ∧ mortonDecode 0x8000000000000000 = ⟨0x00200000, 0, 0⟩

/-- R162 (the spec's inference, from R130 and R148): every code is restored by decoding and encoding it; on the kept
ranges `ENCODE` is one-to-one onto all codes and `DECODE` is its inverse. -/
def Obligations.EveryCodeRoundTrips : Prop :=
  (∀ c : Code, mortonEncode (mortonDecode c) = c) ∧
  (∀ t : Triple, ∀ p < 64, (mortonEncode t).getLsbD p =
    if p % 3 = 0 then t.x.getLsbD (p / 3) else if p % 3 = 1 then t.y.getLsbD (p / 3) else t.z.getLsbD (p / 3)) ∧
  (∀ c : Code, ∃! t : Triple, (t.x.toNat < 2 ^ 22 ∧ t.y.toNat < 2 ^ 21 ∧ t.z.toNat < 2 ^ 21) ∧ mortonEncode t = c) ∧
  (∀ t : Triple, t.x.toNat < 2 ^ 22 → t.y.toNat < 2 ^ 21 → t.z.toNat < 2 ^ 21 → mortonDecode (mortonEncode t) = t)

/-- R163 (beyond valid operands, the spec's inference from R128): the axes are independent, for all operands. -/
def Obligations.AxesAreIndependent : Prop :=
  (∀ x y z : Component,
    mortonEncode ⟨x, y, z⟩ = mortonEncode ⟨x, 0, 0⟩ ||| mortonEncode ⟨0, y, 0⟩ ||| mortonEncode ⟨0, 0, z⟩) ∧
  (∀ a : Axis, encodeAxis a 0 = 0) ∧
  (∀ v : Component, mortonEncode ⟨v, 0, 0⟩ = encodeAxis .x v ∧ mortonEncode ⟨0, v, 0⟩ = encodeAxis .y v ∧
    mortonEncode ⟨0, 0, v⟩ = encodeAxis .z v)

/-- R164 (the spec's inference, from R126): truncation, the masks that describe it, and that no smaller ones do. -/
def Obligations.TruncationKeepsExactlyTheKeptBits : Prop :=
  (∀ x y z : Component,
    mortonEncode ⟨x, y, z⟩ = mortonEncode ⟨x &&& 0x003FFFFF, y &&& 0x001FFFFF, z &&& 0x001FFFFF⟩) ∧
  (∀ mx my mz : Component,
    (∀ x y z : Component, mortonEncode ⟨x, y, z⟩ = mortonEncode ⟨x &&& mx, y &&& my, z &&& mz⟩) →
    mx &&& 0x003FFFFF = 0x003FFFFF ∧ my &&& 0x001FFFFF = 0x001FFFFF ∧ mz &&& 0x001FFFFF = 0x001FFFFF) ∧
  (∀ x : Component, mortonEncode ⟨x, 0, 0⟩ = mortonEncode ⟨x &&& 0x1FFFFF, 0, 0⟩ ↔ x.getLsbD 21 = false) ∧
  (∀ y : Component, mortonEncode ⟨0, y, 0⟩ = mortonEncode ⟨0, y &&& 0x1FFFFF, 0⟩) ∧
  (∀ z : Component, mortonEncode ⟨0, 0, z⟩ = mortonEncode ⟨0, 0, z &&& 0x1FFFFF⟩) ∧
  mortonEncode ⟨0x00200000, 0, 0⟩ = 0x8000000000000000 ∧ mortonEncode ⟨0x00200000 &&& 0x1FFFFF, 0, 0⟩ = 0

/-- R165 (the range of bits is the spec's inference, from R125 and R148): a single component bit, on each axis: one code
bit that no other axis sees, or none at all. -/
def Obligations.LanesAreDisjoint : Prop :=
  ∀ a : Axis, ∀ k < 32,
    (k ≤ 20 ∨ (k = 21 ∧ a = .x) →
      encodeAxis a (1#32 <<< k) = 1#64 <<< (3 * k + lane a) ∧
      decodeAxis a (1#64 <<< (3 * k + lane a)) = 1#32 <<< k ∧
      ∀ a' : Axis, a' ≠ a → decodeAxis a' (1#64 <<< (3 * k + lane a)) = 0) ∧
    (¬(k ≤ 20 ∨ (k = 21 ∧ a = .x)) →
      encodeAxis a (1#32 <<< k) = 0 ∧ ∀ a' : Axis, decodeAxis a' (encodeAxis a (1#32 <<< k)) = 0)

/-- R166 (the values after the first three are the spec's inference, from R130 and R148): the boundary values. -/
def Obligations.BoundaryValues : Prop :=
  mortonEncode ⟨0, 0, 0⟩ = 0 ∧ mortonEncode ⟨0x1FFFFF, 0x1FFFFF, 0x1FFFFF⟩ = 0x7FFFFFFFFFFFFFFF ∧
  mortonDecode 0 = ⟨0, 0, 0⟩ ∧ mortonEncode ⟨0x3FFFFF, 0x1FFFFF, 0x1FFFFF⟩ = 0xFFFFFFFFFFFFFFFF ∧
  mortonEncode ⟨0xFFFFFFFF, 0xFFFFFFFF, 0xFFFFFFFF⟩ = 0xFFFFFFFFFFFFFFFF ∧
  mortonDecode 0x7FFFFFFFFFFFFFFF = ⟨0x1FFFFF, 0x1FFFFF, 0x1FFFFF⟩ ∧
  mortonDecode 0xFFFFFFFFFFFFFFFF = ⟨0x3FFFFF, 0x1FFFFF, 0x1FFFFF⟩

/-- R167 (beyond X below 2^21, the spec's inference from R127): within one axis, with the other operands 0, `ENCODE` keeps
order on the kept range and not beyond it. -/
def Obligations.OrderIsKeptWithinOneAxis : Prop :=
  (∀ v w : Component, v < w → w.toNat < 2 ^ 21 → mortonEncode ⟨v, 0, 0⟩ < mortonEncode ⟨w, 0, 0⟩) ∧
  (∀ v w : Component, v < w → w.toNat < 2 ^ 22 → mortonEncode ⟨v, 0, 0⟩ < mortonEncode ⟨w, 0, 0⟩) ∧
  (∀ v w : Component, v < w → w.toNat < 2 ^ 21 → mortonEncode ⟨0, v, 0⟩ < mortonEncode ⟨0, w, 0⟩ ∧
    mortonEncode ⟨0, 0, v⟩ < mortonEncode ⟨0, 0, w⟩) ∧
  mortonEncode ⟨0x3FFFFF, 0, 0⟩ = 0x9249249249249249 ∧ mortonEncode ⟨0x400000, 0, 0⟩ = 0

/-- R168 (the spec's inference, from R132): the top bit of a code is bit 21 of X. -/
def Obligations.TopCodeBitIsBit21OfX : Prop :=
  (∀ t : Triple, (mortonEncode t).getLsbD 63 = t.x.getLsbD 21) ∧
  (∀ t : Triple, t.x.toNat < 2 ^ 21 → t.y.toNat < 2 ^ 21 → t.z.toNat < 2 ^ 21 →
    (mortonEncode t).getLsbD 63 = false ∧ (mortonEncode t).toNat < 2 ^ 63)

/-- R169 (the spec's inference, from R161, R164, R149): where the 21-bit reading of the document's prose and its formulas
give the same results. The prose reading is written here as the formulas on components cut to 21 bits and on codes with
bit 63 cleared. -/
def Obligations.ReadingsAgreeOffTheDisputedBit : Prop :=
  (∀ t : Triple, t.x.getLsbD 21 = false → mortonEncode t = mortonEncode (t.maskEach 0x1FFFFF)) ∧
  (∀ c : Code, c.getLsbD 63 = false → mortonDecode c = mortonDecode (c &&& 0x7FFFFFFFFFFFFFFF) ∧
    mortonDecode c = (mortonDecode c).maskEach 0x1FFFFF)

/-- R170 (the spec's inference, from R130): codes of in-range triples compare by the most significant component bit in
which the triples differ, ties at one bit level broken Z over Y over X; the unit cube's codes are 0 to 7. -/
def Obligations.CodesFollowTheZOrder : Prop :=
  (∀ t u : Triple, t.x.toNat < 2 ^ 22 → t.y.toNat < 2 ^ 21 → t.z.toNat < 2 ^ 21 →
    u.x.toNat < 2 ^ 22 → u.y.toNat < 2 ^ 21 → u.z.toNat < 2 ^ 21 →
    (mortonEncode t < mortonEncode u ↔ ∃ k : Nat,
      (∀ j, k < j → t.x.getLsbD j = u.x.getLsbD j ∧ t.y.getLsbD j = u.y.getLsbD j ∧ t.z.getLsbD j = u.z.getLsbD j) ∧
      ((t.z.getLsbD k = false ∧ u.z.getLsbD k = true) ∨
       (t.z.getLsbD k = u.z.getLsbD k ∧ t.y.getLsbD k = false ∧ u.y.getLsbD k = true) ∨
       (t.z.getLsbD k = u.z.getLsbD k ∧ t.y.getLsbD k = u.y.getLsbD k ∧
        t.x.getLsbD k = false ∧ u.x.getLsbD k = true)))) ∧
  (∀ x y z : Component, x ≤ 1 → y ≤ 1 → z ≤ 1 →
    (mortonEncode ⟨x, y, z⟩).toNat = x.toNat + 2 * y.toNat + 4 * z.toNat)

/-- R174 (the spec's inference, from R106, R127, R152): every operation is linear over OR, and an operand that gains bits
takes none from the result. -/
def Obligations.OperationsAreLinearOverOr : Prop :=
  (∀ p q : Byte, interleave (p ||| q) = interleave p ||| interleave q ∧
    (p &&& q = p → interleave p &&& interleave q = interleave p)) ∧
  (∀ (a : Axis) (p q : Byte), pack a (p ||| q) = pack a p ||| pack a q ∧
    (p &&& q = p → pack a p &&& pack a q = pack a p)) ∧
  (∀ (a : Axis) (v w : Component), encodeAxis a (v ||| w) = encodeAxis a v ||| encodeAxis a w ∧
    (v &&& w = v → encodeAxis a v &&& encodeAxis a w = encodeAxis a v)) ∧
  (∀ x x' y y' z z' : Component,
    mortonEncode ⟨x ||| x', y, z⟩ = mortonEncode ⟨x, y, z⟩ ||| mortonEncode ⟨x', y, z⟩ ∧
    mortonEncode ⟨x, y ||| y', z⟩ = mortonEncode ⟨x, y, z⟩ ||| mortonEncode ⟨x, y', z⟩ ∧
    mortonEncode ⟨x, y, z ||| z'⟩ = mortonEncode ⟨x, y, z⟩ ||| mortonEncode ⟨x, y, z'⟩ ∧
    (x &&& x' = x → y &&& y' = y → z &&& z' = z →
      mortonEncode ⟨x, y, z⟩ &&& mortonEncode ⟨x', y', z'⟩ = mortonEncode ⟨x, y, z⟩)) ∧
  (∀ (a : Axis) (c e : Code), decodeAxis a (c ||| e) = decodeAxis a c ||| decodeAxis a e ∧
    (c &&& e = c → decodeAxis a c &&& decodeAxis a e = decodeAxis a c)) ∧
  (∀ c e : Code,
    mortonDecode (c ||| e) = ⟨(mortonDecode c).x ||| (mortonDecode e).x, (mortonDecode c).y ||| (mortonDecode e).y,
      (mortonDecode c).z ||| (mortonDecode e).z⟩) ∧
  interleave 0 = 0 ∧ (∀ a : Axis, pack a 0 = 0 ∧ encodeAxis a 0 = 0 ∧ decodeAxis a 0 = 0) ∧
  mortonEncode ⟨0, 0, 0⟩ = 0 ∧ mortonDecode 0 = ⟨0, 0, 0⟩

/-! ### The ports -/

/-- R32 (a decision of the spec, D2): each block's outputs are the operation's results for the inputs present. -/
def Obligations.PortsShowTheOperations : Prop :=
  (∀ (p : InterleaverIn) (s : State), exec (.interleave p.b_i) s =
    .next ⟨s.pending, s.served ++ [⟨.interleave p.b_i, .tableWord (mortonByteInterleaver p).ilv_o⟩]⟩) ∧
  (∀ (p : EncoderIn) (s : State), exec (.encode p.x_i p.y_i p.z_i) s =
    .next ⟨s.pending, s.served ++ [⟨.encode p.x_i p.y_i p.z_i, .code (mortonEncoder p).code_o⟩]⟩) ∧
  (∀ (p : DecoderIn) (s : State), exec (.decode p.code_i) s =
    .next ⟨s.pending, s.served ++ [⟨.decode p.code_i,
      .triple ⟨(mortonDecoder p).x_o, (mortonDecoder p).y_o, (mortonDecoder p).z_o⟩⟩]⟩)

/-- R223 (the spec's inference, from R161 and R162): the encoder wired to the decoder gives the masked triple; the decoder
wired to the encoder gives the code back. -/
def Obligations.WiredBlocksRoundTrip : Prop :=
  (∀ p : EncoderIn, encoderToDecoder p = ⟨p.x_i &&& 0x003FFFFF, p.y_i &&& 0x001FFFFF, p.z_i &&& 0x001FFFFF⟩) ∧
  (∀ p : DecoderIn, decoderToEncoder p = ⟨p.code_i⟩)
end

