-- ==== Sys2Proof/Laws/Bits.lean ====
section
/-! SUPPORT. Every shared operation, bit by bit: what a later proof cites instead of unfolding a table or a cascade. -/
namespace Sys2Proof.Machine

set_option maxRecDepth 100000 in
/-- The listed table is the contract (R104). -/
theorem ilv_eq_interleave : ∀ b : Byte, ilv b = interleave b := by decide

theorem interleave_getLsbD (b : Byte) (p : Nat) :
    (interleave b).getLsbD p = (decide (p < 24) && decide (p % 3 = 0) && b.getLsbD (p / 3)) := by
  by_cases h : p < 24
  · interval_cases p <;> simp [interleave, List.range, List.range.loop]
  · rw [BitVec.getLsbD_of_ge _ _ (by omega)]
    simp [h]

theorem ilv_getLsbD (b : Byte) (p : Nat) :
    (ilv b).getLsbD p = (decide (p < 24) && decide (p % 3 = 0) && b.getLsbD (p / 3)) := by
  rw [ilv_eq_interleave, interleave_getLsbD]

theorem pack_getLsbD (a : Axis) (b : Byte) (p : Nat) :
    (pack a b).getLsbD p = (decide (p < 24) && decide (p % 3 = lane a) && b.getLsbD (p / 3)) := by
  by_cases h : p < 24
  · cases a <;> simp only [pack, lane, BitVec.getLsbD_shiftLeft, ilv_getLsbD] <;> interval_cases p <;> simp
  · rw [BitVec.getLsbD_of_ge _ _ (by omega)]
    simp [h]

theorem encodeAxis_getLsbD (a : Axis) (v : Component) (p : Nat) :
    (encodeAxis a v).getLsbD p = (decide (p < 64) && decide (p % 3 = lane a) && v.getLsbD (p / 3)) := by
  by_cases h : p < 64
  · simp only [encodeAxis, widenWord, lowByte, middleByte, highByte, BitVec.getLsbD_or, BitVec.getLsbD_shiftLeft,
      BitVec.getLsbD_setWidth, pack_getLsbD, BitVec.getLsbD_extractLsb']
    cases a <;> simp only [lane] <;> interval_cases p <;> simp
  · rw [BitVec.getLsbD_of_ge _ _ (by omega)]
    simp [h]

theorem mortonEncode_getLsbD (t : Triple) (p : Nat) :
    (mortonEncode t).getLsbD p =
      (decide (p < 64) &&
        (if p % 3 = 0 then t.x.getLsbD (p / 3)
         else if p % 3 = 1 then t.y.getLsbD (p / 3) else t.z.getLsbD (p / 3))) := by
  have h3 : p % 3 = 0 ∨ p % 3 = 1 ∨ p % 3 = 2 := by omega
  simp only [mortonEncode, BitVec.getLsbD_or, encodeAxis_getLsbD, lane]
  rcases h3 with h | h | h <;> simp [h]

/-- Each result bit of the cascade is one bit of the shifted code. -/
theorem decodeAxis_getLsbD_cascadeS0 (a : Axis) (c : Code) (k : Nat) (hk : k < 32) :
    (decodeAxis a c).getLsbD k = (cascadeS0 a c).getLsbD (3 * k) := by
  interval_cases k <;>
    simp [decodeAxis, narrowCode, cascadeS6, cascadeS5, cascadeS4, cascadeS3, cascadeS2, cascadeS1, gatherStep,
      dm0, dm1, dm2, dm3, dm4, dm5]

theorem decodeAxis_getLsbD (a : Axis) (c : Code) (k : Nat) :
    (decodeAxis a c).getLsbD k = c.getLsbD (3 * k + lane a) := by
  by_cases hk : k < 32
  · rw [decodeAxis_getLsbD_cascadeS0 a c k hk]
    simp [cascadeS0, Nat.add_comm]
  · rw [BitVec.getLsbD_of_ge _ _ (by omega), BitVec.getLsbD_of_ge _ _ (by omega)]

theorem lane_lt (a : Axis) : lane a < 3 := by cases a <;> decide

theorem lane_ne {a a' : Axis} (h : a ≠ a') : lane a ≠ lane a' := by
  cases a <;> cases a' <;> first | exact absurd rfl h | decide

theorem lanepos_getLsbD (a : Axis) (p : Nat) :
    (lanepos a).getLsbD p = (decide (p < 64) && decide (p % 3 = lane a)) := by
  by_cases h : p < 64
  · cases a <;> interval_cases p <;> decide
  · rw [BitVec.getLsbD_of_ge _ _ (by omega)]
    simp [h]

theorem keep_getLsbD (a : Axis) (k : Nat) : (keep a).getLsbD k = decide (3 * k + lane a < 64) := by
  by_cases h : k < 32
  · cases a <;> interval_cases k <;> decide
  · rw [BitVec.getLsbD_of_ge _ _ (by omega)]
    simp only [Bool.false_eq, decide_eq_false_iff_not]
    omega

end Sys2Proof.Machine
end

