-- ==== Sys2Proof/Laws/Numbers.lean ====
section
/-! SUPPORT. Bit vectors as numbers: order and value, read from the bits. -/
namespace Sys2Proof

/-- One bit vector is below another exactly when, at the highest place where they differ, it has the 0. -/
theorem lt_iff_getLsbD {n : Nat} (x y : BitVec n) :
    x < y ↔ ∃ k, (∀ j, k < j → x.getLsbD j = y.getLsbD j) ∧ x.getLsbD k = false ∧ y.getLsbD k = true := by
  constructor
  · intro h
    have hex : ∃ k, k < n ∧ x.getLsbD k ≠ y.getLsbD k := by
      by_contra hc
      push Not at hc
      have := BitVec.eq_of_getLsbD_eq fun i hi => hc i hi
      subst this
      exact absurd h (BitVec.lt_irrefl x)
    obtain ⟨k₀, hk₀, hne⟩ := hex
    have hk := Nat.findGreatest_spec (P := fun k => x.getLsbD k ≠ y.getLsbD k) hk₀.le hne
    have hgt : ∀ j, Nat.findGreatest (fun k => x.getLsbD k ≠ y.getLsbD k) n < j → x.getLsbD j = y.getLsbD j := by
      intro j hj
      by_cases hjn : j ≤ n
      · simpa using Nat.findGreatest_is_greatest hj hjn
      · rw [BitVec.getLsbD_of_ge _ _ (by omega), BitVec.getLsbD_of_ge _ _ (by omega)]
    refine ⟨_, hgt, ?_⟩
    by_contra hc
    generalize Nat.findGreatest (fun k => x.getLsbD k ≠ y.getLsbD k) n = k at hk hgt hc
    have h1 : y.getLsbD k = false ∧ x.getLsbD k = true := by
      cases hx : x.getLsbD k <;> cases hy : y.getLsbD k <;> simp_all
    have hyx : y.toNat < x.toNat := Nat.lt_of_testBit k h1.1 h1.2 fun j hj => (hgt j hj).symm
    have hxy : x.toNat < y.toNat := h
    omega
  · rintro ⟨k, hgt, h0, h1⟩
    exact Nat.lt_of_testBit k h0 h1 fun j hj => hgt j hj

/-- A bit vector's number is the sum of its bits' weights. -/
theorem toNat_eq_sum {n : Nat} (x : BitVec n) :
    x.toNat = ∑ p ∈ Finset.range n, (x.getLsbD p).toNat * 2 ^ p := by
  have hm : ∀ m, x.toNat % 2 ^ m = ∑ p ∈ Finset.range m, (x.getLsbD p).toNat * 2 ^ p := by
    intro m
    induction m with
    | zero => simp [Nat.mod_one]
    | succ m ih =>
      rw [Finset.sum_range_succ, ← ih, Nat.mod_pow_succ, BitVec.getLsbD, Nat.testBit_eq_decide_div_mod_eq]
      rcases Nat.mod_two_eq_zero_or_one (x.toNat / 2 ^ m) with h | h <;> simp [h]
  rw [← hm n, Nat.mod_eq_of_lt x.isLt]

/-- A bit vector below `2 ^ m` has no bit from `m` on. -/
theorem getLsbD_of_lt {n : Nat} (x : BitVec n) {m k : Nat} (h : x.toNat < 2 ^ m) (hk : m ≤ k) : x.getLsbD k = false :=
  Nat.testBit_lt_two_pow (lt_of_lt_of_le h (Nat.pow_le_pow_right (by omega) hk))

end Sys2Proof
end

