-- ==== Sys2Proof/Laws/PerInstr.lean ====
section
/-! SUPPORT. Facts about every operation as syntax, one lemma per constructor. -/

/-- The request word of an operation matches the opcode-table row of its own mnemonic (R83). -/
def Sys2Proof.Laws.RowMatches.Statement (i : Sys2Proof.Instr) : Prop :=
  ∃ r ∈ Sys2Proof.opcodeRows, r.mnemonic = i.mnemonic ∧ r.matchesWord (Sys2Proof.encodeWord i) = true

namespace Sys2Proof.Laws.RowMatches

/-- A byte request under a format B mask is its row's pattern. -/
theorem mask_byte (op : BitVec 3) (axis : BitVec 2) (b : Byte) :
    requestWord op axis (b.setWidth 96) &&& 0x1FFFFFFFFFFFFFFFFFFFFFFF00#101 = requestWord op axis 0 := by
  apply BitVec.eq_of_getLsbD_eq
  intro i hi
  simp only [requestWord, BitVec.getLsbD_and, BitVec.getLsbD_append, BitVec.getLsbD_setWidth]
  interval_cases i <;> simp

/-- A component request under a format A32 mask is its row's pattern. -/
theorem mask_component (op : BitVec 3) (axis : BitVec 2) (v : Component) :
    requestWord op axis (v.setWidth 96) &&& 0x1FFFFFFFFFFFFFFFFF00000000#101 = requestWord op axis 0 := by
  apply BitVec.eq_of_getLsbD_eq
  intro i hi
  simp only [requestWord, BitVec.getLsbD_and, BitVec.getLsbD_append, BitVec.getLsbD_setWidth]
  interval_cases i <;> simp

/-- A code request under a format A64 or C mask is its row's pattern. -/
theorem mask_code (op : BitVec 3) (axis : BitVec 2) (c : Code) :
    requestWord op axis (c.setWidth 96) &&& 0x1FFFFFFFFF0000000000000000#101 = requestWord op axis 0 := by
  apply BitVec.eq_of_getLsbD_eq
  intro i hi
  simp only [requestWord, BitVec.getLsbD_and, BitVec.getLsbD_append, BitVec.getLsbD_setWidth]
  interval_cases i <;> simp

/-- A format V request under its mask is its row's pattern. -/
theorem mask_triple (op : BitVec 3) (axis : BitVec 2) (p : BitVec 96) :
    requestWord op axis p &&& 0x1F000000000000000000000000#101 = requestWord op axis 0 := by
  apply BitVec.eq_of_getLsbD_eq
  intro i hi
  simp only [requestWord, BitVec.getLsbD_and, BitVec.getLsbD_append]
  interval_cases i <;> simp

/-- A row that has the operation's mnemonic and matches its word. -/
theorem of_row {i : Instr} (n : Nat) (hn : n < opcodeRows.length) (hm : opcodeRows[n].mnemonic = i.mnemonic)
    (hw : encodeWord i &&& opcodeRows[n].mask = opcodeRows[n].pattern) : Statement i :=
  ⟨_, List.getElem_mem hn, hm, beq_iff_eq.2 hw⟩

theorem interleave (b : Byte) : Statement (.interleave b) :=
  of_row 0 (by decide) rfl ((mask_byte 0 0 b).trans (by decide))

theorem packX (b : Byte) : Statement (.packX b) :=
  of_row 1 (by decide) rfl ((mask_byte 1 0 b).trans (by decide))

theorem packY (b : Byte) : Statement (.packY b) :=
  of_row 2 (by decide) rfl ((mask_byte 1 1 b).trans (by decide))

theorem packZ (b : Byte) : Statement (.packZ b) :=
  of_row 3 (by decide) rfl ((mask_byte 1 2 b).trans (by decide))

theorem encodeAxisX (v : Component) : Statement (.encodeAxisX v) :=
  of_row 4 (by decide) rfl ((mask_component 2 0 v).trans (by decide))

theorem encodeAxisY (v : Component) : Statement (.encodeAxisY v) :=
  of_row 5 (by decide) rfl ((mask_component 2 1 v).trans (by decide))

theorem encodeAxisZ (v : Component) : Statement (.encodeAxisZ v) :=
  of_row 6 (by decide) rfl ((mask_component 2 2 v).trans (by decide))

theorem decodeAxisX (c : Code) : Statement (.decodeAxisX c) :=
  of_row 7 (by decide) rfl ((mask_code 3 0 c).trans (by decide))

theorem decodeAxisY (c : Code) : Statement (.decodeAxisY c) :=
  of_row 8 (by decide) rfl ((mask_code 3 1 c).trans (by decide))

theorem decodeAxisZ (c : Code) : Statement (.decodeAxisZ c) :=
  of_row 9 (by decide) rfl ((mask_code 3 2 c).trans (by decide))

theorem encode (x y z : Component) : Statement (.encode x y z) :=
  of_row 10 (by decide) rfl ((mask_triple 4 0 (payloadV x y z)).trans (by decide))

theorem decode (c : Code) : Statement (.decode c) :=
  of_row 11 (by decide) rfl ((mask_code 5 0 c).trans (by decide))

end Sys2Proof.Laws.RowMatches
end

