-- ==== Sys2Proof/Laws/Requests.lean ====
section
/-! SUPPORT. The fields of a request word, and what each payload format reads. -/
namespace Sys2Proof

theorem requestWord_getLsbD (op : BitVec 3) (axis : BitVec 2) (p : BitVec 96) (i : Nat) :
    (requestWord op axis p).getLsbD i =
      if i < 96 then p.getLsbD i else if i < 98 then axis.getLsbD (i - 96) else op.getLsbD (i - 98) := by
  simp only [requestWord, BitVec.getLsbD_append]
  split
  · rfl
  · rw [show i - 96 - 2 = i - 98 by omega]
    simp only [show (i - 96 < 2) = (i < 98) by simp only [eq_iff_iff]; omega]

theorem opField_requestWord (op : BitVec 3) (axis : BitVec 2) (p : BitVec 96) :
    opField (requestWord op axis p) = op := by
  apply BitVec.eq_of_getLsbD_eq
  intro i hi
  simp [opField, requestWord_getLsbD, hi, show ¬ 98 + i < 96 by omega]

theorem axisField_requestWord (op : BitVec 3) (axis : BitVec 2) (p : BitVec 96) :
    axisField (requestWord op axis p) = axis := by
  apply BitVec.eq_of_getLsbD_eq
  intro i hi
  simp [axisField, requestWord_getLsbD, hi, show 96 + i < 98 by omega]

theorem payloadField_requestWord (op : BitVec 3) (axis : BitVec 2) (p : BitVec 96) :
    payloadField (requestWord op axis p) = p := by
  apply BitVec.eq_of_getLsbD_eq
  intro i hi
  simp [payloadField, requestWord_getLsbD, hi]

/-- A request word is its three fields. -/
theorem requestWord_fields (w : ReqWord) : requestWord (opField w) (axisField w) (payloadField w) = w := by
  apply BitVec.eq_of_getLsbD_eq
  intro i hi
  simp only [requestWord_getLsbD, opField, axisField, payloadField, BitVec.getLsbD_extractLsb']
  split
  · simp [*]
  · split
    · simp [show i - 96 < 2 by omega, show 96 + (i - 96) = i by omega]
    · simp [show i - 98 < 3 by omega, show 98 + (i - 98) = i by omega]

theorem requestWord_inj {op op' : BitVec 3} {axis axis' : BitVec 2} {p p' : BitVec 96} :
    requestWord op axis p = requestWord op' axis' p' ↔ op = op' ∧ axis = axis' ∧ p = p' := by
  constructor
  · intro h
    refine ⟨?_, ?_, ?_⟩
    · simpa [opField_requestWord] using congrArg opField h
    · simpa [axisField_requestWord] using congrArg axisField h
    · simpa [payloadField_requestWord] using congrArg payloadField h
  · rintro ⟨rfl, rfl, rfl⟩
    rfl

/-- Masking a request word masks each field. -/
theorem requestWord_and (op op' : BitVec 3) (axis axis' : BitVec 2) (p p' : BitVec 96) :
    requestWord op axis p &&& requestWord op' axis' p' = requestWord (op &&& op') (axis &&& axis') (p &&& p') := by
  apply BitVec.eq_of_getLsbD_eq
  intro i hi
  simp only [BitVec.getLsbD_and, requestWord_getLsbD]
  split
  · rfl
  · split <;> rfl

theorem decodeWord_requestWord (op : BitVec 3) (axis : BitVec 2) (p : BitVec 96) :
    decodeWord (requestWord op axis p) = decodeFields op.toNat axis.toNat p := by
  rw [decodeWord, opField_requestWord, axisField_requestWord, payloadField_requestWord]

theorem extractLow_setWidth {n : Nat} (x : BitVec n) (hn : n ≤ 96) : (x.setWidth 96).extractLsb' 0 n = x := by
  apply BitVec.eq_of_getLsbD_eq
  intro i hi
  simp [hi, show i < 96 by omega]

theorem extractHigh_setWidth {n : Nat} (x : BitVec n) : (x.setWidth 96).extractLsb' n (96 - n) = 0 := by
  apply BitVec.eq_of_getLsbD_eq
  intro i hi
  simp

/-- A payload whose bits from `n` on are zero is its low field, widened. -/
theorem eq_setWidth_extractLow {n : Nat} {p : BitVec 96} (h : p.extractLsb' n (96 - n) = 0) :
    p = (p.extractLsb' 0 n).setWidth 96 := by
  apply BitVec.eq_of_getLsbD_eq
  intro i hi
  by_cases hin : i < n
  · simp [hi, hin]
  · have hz := congrArg (fun q => q.getLsbD (i - n)) h
    simp only [BitVec.getLsbD_extractLsb', show n + (i - n) = i by omega, show i - n < 96 - n by omega, decide_true,
      Bool.true_and] at hz
    simp [hin, hz]

/-- A one-operand format accepts exactly the widened operands. -/
theorem readLow_eq_ok {n : Nat} (hn : n ≤ 96) (mk : BitVec n → Instr) (p : BitVec 96) (i : Instr) :
    readLow n mk p = .ok i ↔ ∃ x : BitVec n, p = x.setWidth 96 ∧ i = mk x := by
  constructor
  · intro e
    unfold readLow at e
    split at e
    · cases e
      exact ⟨_, eq_setWidth_extractLow ‹_›, rfl⟩
    · cases e
  · rintro ⟨x, rfl, rfl⟩
    rw [readLow, if_pos (extractHigh_setWidth x), extractLow_setWidth x hn]

theorem payloadV_getLsbD (x y z : Component) (i : Nat) :
    (payloadV x y z).getLsbD i =
      if i < 32 then x.getLsbD i else if i < 64 then y.getLsbD (i - 32) else z.getLsbD (i - 64) := by
  simp only [payloadV, BitVec.getLsbD_append]
  split
  · rfl
  · rw [show i - 32 - 32 = i - 64 by omega]
    simp only [show (i - 32 < 32) = (i < 64) by simp only [eq_iff_iff]; omega]

/-- Format V accepts every payload. -/
theorem readV_eq_ok (mk : Component → Component → Component → Instr) (p : BitVec 96) (i : Instr) :
    readV mk p = .ok i ↔ ∃ x y z : Component, p = payloadV x y z ∧ i = mk x y z := by
  constructor
  · intro e
    cases e
    refine ⟨_, _, _, BitVec.eq_of_getLsbD_eq fun j hj => ?_, rfl⟩
    simp only [payloadV_getLsbD, BitVec.getLsbD_extractLsb']
    split
    · simp [*]
    · split
      · simp [show j - 32 < 32 by omega, show 32 + (j - 32) = j by omega]
      · simp [show j - 64 < 32 by omega, show 64 + (j - 64) = j by omega]
  · rintro ⟨x, y, z, rfl, rfl⟩
    have hx : (payloadV x y z).extractLsb' 0 32 = x :=
      BitVec.eq_of_getLsbD_eq fun j hj => by simp [payloadV_getLsbD, hj]
    have hy : (payloadV x y z).extractLsb' 32 32 = y :=
      BitVec.eq_of_getLsbD_eq fun j hj => by simp [payloadV_getLsbD, hj, show 32 + j < 64 by omega]
    have hz : (payloadV x y z).extractLsb' 64 32 = z :=
      BitVec.eq_of_getLsbD_eq fun j hj => by
        simp [payloadV_getLsbD, hj, show ¬ 64 + j < 32 by omega, show ¬ 64 + j < 64 by omega]
    rw [readV, hx, hy, hz]

end Sys2Proof
end

