-- ==== Sys2Proof/Laws/State.lean ====
section
/-! SUPPORT. The fields of a state after each named operation on it. -/
namespace Sys2Proof.Machine

@[simp] theorem recordServed_pending (i : Instr) (r : Response) (s : State) :
    (recordServed i r s).pending = s.pending := rfl

@[simp] theorem recordServed_served (i : Instr) (r : Response) (s : State) :
    (recordServed i r s).served = s.served ++ [⟨i, r⟩] := rfl

@[simp] theorem present_pending (w : ReqWord) (s : State) : (present w s).pending = s.pending ++ [w] := rfl

@[simp] theorem present_served (w : ReqWord) (s : State) : (present w s).served = s.served := rfl

/-- `answer` always answers, and with this state. -/
theorem answer_eq (i : Instr) (r : Response) (s : State) :
    answer i r s = .next ⟨s.pending, s.served ++ [⟨i, r⟩]⟩ := rfl

end Sys2Proof.Machine
end

