-- ==== Sys2Proof/Laws/Step.lean ====
section
/-! SUPPORT. What one step can do, and what one operation does, said once. -/
namespace Sys2Proof.Machine

/-- Every operation answers, and its record entry holds the response of the operation (R205). -/
theorem exec_eq_answer (i : Instr) (s : State) : exec i s = answer i (responseOf i) s := by
  cases i <;>
    simp [exec, execInterleave, execPackX, execPackY, execPackZ, execEncodeAxisX, execEncodeAxisY, execEncodeAxisZ,
      execDecodeAxisX, execDecodeAxisY, execDecodeAxisZ, execEncode, execDecode, responseOf, pack, lane,
      ilv_eq_interleave]

/-- The states a step can lead to. -/
theorem step_cases {s t : State} (h : step s = .next t) :
    (s.pending = [] ∧ t = s) ∨
      ∃ w rest i, s.pending = w :: rest ∧ decodeWord w = .ok i ∧
        t = ⟨rest, s.served ++ [⟨i, responseOf i⟩]⟩ := by
  unfold step at h
  split at h
  · cases h
    exact .inl ⟨‹_›, rfl⟩
  · split at h
    · cases h
    · rename_i w rest hp _ i hi
      rw [exec_eq_answer, answer_eq] at h
      cases h
      exact .inr ⟨w, rest, i, hp, hi, rfl⟩

@[simp] theorem endState_zero (s : State) : endState 0 s = some s := rfl

/-- A run of any machine is its first step and the run from there. -/
theorem run_succ (M : Host.Core) {s t : M.State} (h : M.step s = .next t) (k : Nat) : M.run (k + 1) s = M.run k t := by
  rw [Host.Core.run, h]

/-- A run of one step more is its first step and the run from there. -/
theorem endState_succ {s t : State} (h : step s = .next t) (k : Nat) : endState (k + 1) s = endState k t := by
  have hr : Host.Core.run core (k + 1) s = Host.Core.run core k t := run_succ core h k
  rw [endState, endState, hr]

end Sys2Proof.Machine
end

