-- ==== Sys2Proof/Tests/Slice0.lean ====
section
/-! SUPPORT. The model's own tests. Expected values are those of 95_test_vectors.md, named by their rows, or of the rule
cited; none was taken from the model. The last part shows, for each statement with hypotheses, values that meet them. -/
namespace Sys2Proof.Tests

open Sys2Proof.Machine

/-- The response to one request word presented to the machine right after reset. -/
def respond (w : Nat) : Option Response :=
  (endState 1 (State.reset.withFetchWord 104 w)).bind fun t => t.served.getLast?.map Served.response

/-- The name with which the first step after reset refuses a request word. -/
def refusal (w : ReqWord) : Option Refusal :=
  match step ⟨[w], []⟩ with
  | .refused r => some r
  | _ => none

/-! ### Words written out from the encodings, field by field: op, axis, payload (R78 to R80) -/

theorem test_word_interleave : decodeWord (0b000#3 ++ 0b00#2 ++ 0#88 ++ 0b10100101#8) = .ok (.interleave 0xA5) := by decide
theorem test_word_packX : decodeWord (0b001#3 ++ 0b00#2 ++ 0#88 ++ 0b00010010#8) = .ok (.packX 0x12) := by decide
theorem test_word_packY : decodeWord (0b001#3 ++ 0b01#2 ++ 0#88 ++ 0b11101111#8) = .ok (.packY 0xEF) := by decide
theorem test_word_packZ : decodeWord (0b001#3 ++ 0b10#2 ++ 0#88 ++ 0b10000000#8) = .ok (.packZ 0x80) := by decide
theorem test_word_encodeAxisX : decodeWord (0b010#3 ++ 0b00#2 ++ 0#64 ++ 0x00ABCDEF#32) = .ok (.encodeAxisX 0x00ABCDEF) := by
  decide
theorem test_word_encodeAxisY : decodeWord (0b010#3 ++ 0b01#2 ++ 0#64 ++ 0x80000001#32) = .ok (.encodeAxisY 0x80000001) := by
  decide
theorem test_word_encodeAxisZ : decodeWord (0b010#3 ++ 0b10#2 ++ 0#64 ++ 0xFFFFFFFF#32) = .ok (.encodeAxisZ 0xFFFFFFFF) := by
  decide
theorem test_word_decodeAxisX : decodeWord (0b011#3 ++ 0b00#2 ++ 0#32 ++ 0x8000000000000001#64) =
    .ok (.decodeAxisX 0x8000000000000001) := by decide
theorem test_word_decodeAxisY : decodeWord (0b011#3 ++ 0b01#2 ++ 0#32 ++ 0xBDC4DC3CFCCFBA04#64) =
    .ok (.decodeAxisY 0xBDC4DC3CFCCFBA04) := by decide
theorem test_word_decodeAxisZ : decodeWord (0b011#3 ++ 0b10#2 ++ 0#32 ++ 0x0000000000000004#64) =
    .ok (.decodeAxisZ 4) := by decide
theorem test_word_encode : decodeWord (0b100#3 ++ 0b00#2 ++ 0x00000003#32 ++ 0x00000002#32 ++ 0x00000001#32) =
    .ok (.encode 1 2 3) := by decide
theorem test_word_decode : decodeWord (0b101#3 ++ 0b00#2 ++ 0#32 ++ 0x0000000000000035#64) = .ok (.decode 0x35) := by decide

/-- The request words of the programs in 95_test_vectors.md 3.1 and 3.3, encoded. -/
theorem test_encodeWord_programs :
    encodeWord (.encode 0x12345 0xABCD 0x1FFFFF) = 0x10001FFFFF0000ABCD00012345#101 ∧
    encodeWord (.decode 0x4925D3CD3FDE4DE7) = 0x14000000004925D3CD3FDE4DE7#101 ∧
    encodeWord (.packY 0xEF) = 0x050000000000000000000000EF#101 ∧
    encodeWord (.encodeAxisY 0x00ABCDEF) = 0x09000000000000000000ABCDEF#101 ∧
    encodeWord (.decodeAxisX 0x0412480482490492) = 0x0C000000000412480482490492#101 := by decide

/-! ### Ill-formed words: each check refuses its own (Q8 to Q18) -/

theorem test_ill_formed_op : wellFormed 0x18000000000000000000000000#101 = false ∧
    refusal 0x18000000000000000000000000#101 = some (.illFormedRequest .reservedOp) ∧
    wellFormed 0x1C000000000000000000000000#101 = false ∧
    refusal 0x1C000000000000000000000000#101 = some (.illFormedRequest .reservedOp) := by decide

theorem test_ill_formed_axis_three : wellFormed 0x07000000000000000000000000#101 = false ∧
    refusal 0x07000000000000000000000000#101 = some (.illFormedRequest .reservedAxis) ∧
    wellFormed 0x0B000000000000000000000001#101 = false ∧
    refusal 0x0B000000000000000000000001#101 = some (.illFormedRequest .reservedAxis) := by decide

theorem test_ill_formed_axis_not_zero : wellFormed 0x01000000000000000000000000#101 = false ∧
    refusal 0x01000000000000000000000000#101 = some (.illFormedRequest .axisNotZero) ∧
    refusal 0x11000000000000000000000000#101 = some (.illFormedRequest .axisNotZero) ∧
    refusal 0x16000000000000000000000000#101 = some (.illFormedRequest .axisNotZero) := by decide

theorem test_ill_formed_payload : wellFormed 0x00000000000000000000000100#101 = false ∧
    refusal 0x00000000000000000000000100#101 = some (.illFormedRequest .payloadNotZero) ∧
    refusal 0x08000000000000000100000000#101 = some (.illFormedRequest .payloadNotZero) ∧
    refusal 0x14000000010000000000000000#101 = some (.illFormedRequest .payloadNotZero) ∧
    refusal 0x0C800000000000000000000000#101 = some (.illFormedRequest .payloadNotZero) := by decide

theorem test_no_request_word : readWord (2 ^ 101) = .error .notARequestWord ∧ decodeTableWord 104 (2 ^ 101) = none := by
  decide

/-! ### One or two requests of each operation, from the word to the response -/

/-- L11, L10. -/
theorem test_interleave : respond 0x000000000000000000000000A5 = some (.tableWord 0x208041) ∧
    respond 0x000000000000000000000000FF = some (.tableWord 0x249249) := by decide

/-- K13, K4. -/
theorem test_packX : respond 0x04000000000000000000000012 = some (.tableWord 0x001008) ∧
    respond 0x040000000000000000000000FF = some (.tableWord 0x249249) := by decide

/-- K12, K3. -/
theorem test_packY : respond 0x050000000000000000000000EF = some (.tableWord 0x490492) ∧
    respond 0x05000000000000000000000080 = some (.tableWord 0x400000) := by decide

/-- K3, K4: bit 23, the top of the word. -/
theorem test_packZ : respond 0x06000000000000000000000080 = some (.tableWord 0x800000) ∧
    respond 0x060000000000000000000000FF = some (.tableWord 0x924924) := by decide

/-- A18, A10: bit 21 of X reaches code bit 63. -/
theorem test_encodeAxisX : respond 0x08000000000000000000ABCDEF = some (.code 0x8209240241248249) ∧
    respond 0x08000000000000000000200000 = some (.code 0x8000000000000000) := by decide

/-- A18, A10: bit 21 of Y is lost. -/
theorem test_encodeAxisY : respond 0x09000000000000000000ABCDEF = some (.code 0x0412480482490492) ∧
    respond 0x09000000000000000000200000 = some (.code 0) := by decide

/-- A19, A16: the top byte is never read. -/
theorem test_encodeAxisZ : respond 0x0A000000000000000012345678 = some (.code 0x4100104120124800) ∧
    respond 0x0A0000000000000000FF000000 = some (.code 0) := by decide

/-- X7, X46. -/
theorem test_decodeAxisX : respond 0x0C000000008000000000000000 = some (.component 0x00200000) ∧
    respond 0x0C00000000FEDCBA9876543210 = some (.component 0x003EB458) := by decide

/-- X8, X26. -/
theorem test_decodeAxisY : respond 0x0D000000008000000000000000 = some (.component 0) ∧
    respond 0x0D000000000123456789ABCDEF = some (.component 0x0001BC6D) := by decide

/-- X6, X27. -/
theorem test_decodeAxisZ : respond 0x0E00000000FFFFFFFFFFFFFFFF = some (.component 0x001FFFFF) ∧
    respond 0x0E000000000123456789ABCDEF = some (.component 0x000614BF) := by decide

/-- E19, and S2 of the source. -/
theorem test_encode : respond 0x100FEDCBA99ABCDEF012345678 = some (.code 0xBDC4DC3CFCCFBA04) ∧
    respond 0x10001FFFFF001FFFFF001FFFFF = some (.code 0x7FFFFFFFFFFFFFFF) := by decide

/-- D21, D8. -/
theorem test_decode :
    respond 0x1400000000DEADBEEFCAFEF00D = some (.triple ⟨0x003BEEF3, 0x000C5DD0, 0x001BFCF1⟩) ∧
    respond 0x1400000000BDC4DC3CFCCFBA04 = some (.triple ⟨0x00345678, 0x001CDEF0, 0x000DCBA9⟩) := by decide

/-- Intermediate words of L22 and X25. -/
theorem test_intermediate_words : interleaveW2 0xCD = 0x0000C00D#32 ∧ interleaveW3 0xCD = 0x000C00C1#32 ∧
    cascadeS1 .x 0x0123456789ABCDEF = 0x0001040209208049 ∧ cascadeS2 .x 0x0123456789ABCDEF = 0x0001040083082043 ∧
    cascadeS3 .x 0x0123456789ABCDEF = 0x000100400B00A007 ∧ cascadeS4 .x 0x0123456789ABCDEF = 0x000100004B0000A7 := by
  decide

set_option maxRecDepth 100000 in
/-- The whole-table checks of 95_test_vectors.md 2.1 and 2.2: sums of all entries. -/
theorem test_table_sums : (ilvTable.map BitVec.toNat).sum = 0x12492480 ∧
    (packYTable.map BitVec.toNat).sum = 0x24924900 ∧ (packZTable.map BitVec.toNat).sum = 0x49249200 := by decide

/-- The 96-bit response word of program 1, step 2. -/
theorem test_response_word :
    (responseWord (.triple ⟨0x00012345, 0x0000ABCD, 0x001FFFFF⟩)).toNat = 0x001FFFFF0000ABCD00012345 := by decide

/-- Program 6: refused whole, naming the second word; served one by one, the third is not affected. -/
theorem test_program_six :
    readProgram [0x10000000030000000200000001, 0x07000000000000000000000001, 0x14000000000000000000000035] =
      .error (1, .reservedAxis) ∧
    answers [0x10000000030000000200000001, 0x07000000000000000000000001, 0x14000000000000000000000035] =
      [some (.code 0x35), none, some (.triple ⟨1, 2, 3⟩)] := by decide

/-- Program 1, run from reset. -/
theorem test_program_one :
    endState 2 ⟨[0x10001FFFFF0000ABCD00012345, 0x14000000004925D3CD3FDE4DE7], []⟩ =
      some ⟨[], [⟨.encode 0x12345 0xABCD 0x1FFFFF, .code 0x4925D3CD3FDE4DE7⟩,
        ⟨.decode 0x4925D3CD3FDE4DE7, .triple ⟨0x00012345, 0x0000ABCD, 0x001FFFFF⟩⟩]⟩ := by decide

/-- R86: `ENCODE x, y, z`; the spelling of 95_test_vectors.md 3.1, step 1; the document's spelling. -/
theorem test_spelling : (Instr.encode 1 2 3).spelling = "ENCODE 1, 2, 3" ∧
    (Instr.encode 0x12345 0xABCD 0x1FFFFF).hexSpelling = "ENCODE 0x12345, 0xABCD, 0x1FFFFF" ∧
    (Instr.encodeAxisY 5).functionSpelling = "encode_axis(5, Y)" := by decide

/-- An operation leaves the requests behind it waiting and the record before it as it was. -/
theorem test_frame : endState 1 ⟨[0x14000000000000000000000035, 0x18000000000000000000000000], [⟨.decode 0, .triple ⟨0, 0, 0⟩⟩]⟩ =
    some ⟨[0x18000000000000000000000000],
      [⟨.decode 0, .triple ⟨0, 0, 0⟩⟩, ⟨.decode 0x35, .triple ⟨1, 2, 3⟩⟩]⟩ := by decide

/-! ### Values that meet the hypotheses of the statements -/

/-- A word and an ill-formed word, each first in a queue. -/
def goodWord : ReqWord := 0x10000000030000000200000001
def badWord : ReqWord := 0x07000000000000000000000001

theorem witness_StepRunsTheDecodedRequest :
    (⟨[goodWord, badWord], []⟩ : State).pending = goodWord :: [badWord] ∧ decodeWord goodWord = .ok (.encode 1 2 3) := by
  decide

theorem witness_IllFormedWordsAreRefusedByName : wellFormed badWord = false ∧ wellFormed goodWord = true ∧
    (⟨[badWord], []⟩ : State).pending = badWord :: [] := by decide

/-- Each side of the equivalence, at the values next to the legal ones. -/
theorem witness_IllFormed_clauses :
    (opField 0x18000000000000000000000000).toNat = 6 ∧ axisField badWord = 3 ∧
    (axisField 0x11000000000000000000000000 ≠ 0 ∧ opField 0x11000000000000000000000000 = 4) ∧
    (opField 0x00000000000000000000000100 = 0 ∧ (payloadField 0x00000000000000000000000100).extractLsb' 8 88 ≠ 0) ∧
    (opField 0x08000000000000000100000000 = 2 ∧ (payloadField 0x08000000000000000100000000).extractLsb' 32 64 ≠ 0) ∧
    (opField 0x14000000010000000000000000 = 5 ∧ (payloadField 0x14000000010000000000000000).extractLsb' 64 32 ≠ 0) := by
  decide

theorem witness_RefusalNamesTheFirstCheckBroken :
    6 ≤ (opField 0x18000000000000000000000000).toNat ∧ (opField badWord = 1 ∧ axisField badWord = 3) ∧
    (opField 0x14000000000000000000000000 = 5 ∧ axisField 0x15000000000000000000000000 ≠ 0 ∧
      opField 0x15000000000000000000000000 = 5) ∧
    (opField 0x06000000000000000000000100 = 1 ∧ axisField 0x06000000000000000000000100 ≠ 3 ∧
      (payloadField 0x06000000000000000000000100).extractLsb' 8 88 ≠ 0) ∧
    (opField 0x0A000000000000000100000000 = 2 ∧ axisField 0x0A000000000000000100000000 ≠ 3 ∧
      (payloadField 0x0A000000000000000100000000).extractLsb' 32 64 ≠ 0) ∧
    (opField 0x0E000000010000000000000000 = 3 ∧ axisField 0x0E000000010000000000000000 ≠ 3 ∧
      (payloadField 0x0E000000010000000000000000).extractLsb' 64 32 ≠ 0) := by decide

theorem witness_OpcodeTableFixesTheOperation : (∃ r ∈ opcodeRows, r.matchesWord goodWord = true) ∧
    decodeWord goodWord = .ok (.encode 1 2 3) := by decide

theorem witness_EncodeWordInvertsDecode : decodeWord goodWord = .ok (.encode 1 2 3) := by decide

theorem witness_TableNumbersAreReadAsRequestWords : 2 ^ 101 - 1 < 2 ^ 101 ∧ 2 ^ 101 ≤ 2 ^ 101 := by decide

theorem witness_PresentedFirstIsServedNext : decodeTableWord 104 0x14000000000000000000000035 = some (.decode 0x35) := by
  decide

theorem witness_IdleStepChangesNothing : (⟨[], [⟨.decode 0, .triple ⟨0, 0, 0⟩⟩]⟩ : State).pending = [] := by decide

theorem witness_OperationsOnlyExtendTheRecord :
    exec (.packX 1) ⟨[goodWord], []⟩ = .next ⟨[goodWord], [⟨.packX 1, .tableWord 1⟩]⟩ := rfl

theorem witness_StepAnswersOrRefusesTheWord : (⟨[goodWord, badWord], []⟩ : State).pending = goodWord :: [badWord] ∧
    (∃ i, decodeWord goodWord = .ok i) ∧ (⟨[badWord], []⟩ : State).pending = badWord :: [] ∧
    decodeWord badWord = .error .reservedAxis :=
  ⟨rfl, ⟨.encode 1 2 3, by decide⟩, rfl, by decide⟩

theorem witness_OrderOfServiceChangesNoResponse :
    [goodWord, 0x14000000000000000000000035].Perm [0x14000000000000000000000035, goodWord] ∧
    [goodWord, 0x14000000000000000000000035].all wellFormed = true := by decide

theorem witness_RunServesEveryRequest : allWellFormed ⟨[goodWord, 0x14000000000000000000000035], []⟩ = true := by decide

theorem witness_StepKeepsTheRecordTrue :
    (∀ e ∈ (⟨[0x14000000000000000000000035], [⟨.packX 1, .tableWord 1⟩]⟩ : State).served,
      e.response = responseOf e.request) ∧
    step ⟨[0x14000000000000000000000035], [⟨.packX 1, .tableWord 1⟩]⟩ =
      .next ⟨[], [⟨.packX 1, .tableWord 1⟩, ⟨.decode 0x35, .triple ⟨1, 2, 3⟩⟩]⟩ :=
  ⟨by decide, rfl⟩

theorem witness_ProgramRefusalNamesTheFirstBadWord : readProgram [goodWord, badWord] = .error (1, .reservedAxis) ∧
    readProgram [goodWord] = .ok [.encode 1 2 3] := by decide

theorem witness_LoadedProgramRunsToItsAnswers : loadProgram [goodWord] .reset = .ok ⟨[goodWord], []⟩ := by decide

theorem witness_InterleaveAnswersTheSpreadByte : 7 < 8 ∧ 23 % 3 ≠ 0 := by decide

theorem witness_PackLaws : Axis.x ≠ Axis.y ∧ 7 < 8 := by decide

theorem witness_LaneShiftLosesNothing : 21 < 22 ∧ 23 < 24 := by decide

theorem witness_PlacedWordsNeverCollide : 24 ≤ 24 ∧ (23 < 24 ∨ 48 ≤ 23) ∧ (48 < 24 ∨ 48 ≤ 48) ∧ 47 < 48 ∧ 15 < 16 ∧
    16 ≤ 3 * 5 + lane .y ∧ 16 ≤ 3 * 7 + lane .x := by decide

theorem witness_EncodeAxisAnswersThePlacedWords : (0xFF000000 : Component) &&& 0x00FFFFFF = 0 := by decide

theorem witness_EncodeAxisClosedForm : 63 % 3 = lane .x ∧ 61 % 3 = lane .y ∧ 62 % 3 = lane .z := by decide

theorem witness_FateOfEveryComponentBit : (0xFFABCDEF : Component) &&& 0x00FFFFFF = 0x00ABCDEF &&& 0x00FFFFFF ∧
    (21 = 21 ∧ Axis.x = Axis.x) ∧ ¬(21 ≤ 20 ∨ (21 = 21 ∧ Axis.y = Axis.x)) := by decide

theorem witness_EncodeAxisLaws : Axis.y ≠ Axis.z ∧ (0x3FFFFF : Component).toNat < (if Axis.x = .x then 2 ^ 22 else 2 ^ 21) ∧
    (0x1FFFFF : Component).toNat < (if Axis.z = .x then 2 ^ 22 else 2 ^ 21) ∧
    (0x3FFFFE : Component).toNat < (if Axis.x = .x then 2 ^ 22 else 2 ^ 21) := by decide

theorem witness_DecodeAxisAnswersTheCascade : (0x4924924924924924 : Code) &&& lanepos .y = 0 := by decide

theorem witness_NarrowingLosesNothing : 32 ≤ 32 := by decide

theorem witness_DecodeAxisClosedForm : 21 < 32 ∧ 3 * 21 + lane .x ≤ 63 ∧ ¬ 3 * 21 + lane .y ≤ 63 ∧ 21 < 22 ∧ Axis.z ≠ Axis.x := by
  decide

theorem witness_EachCodeBitIsOneComponentBit : 63 < 64 ∧ 22 ≤ 22 ∧ 21 ≤ 21 := by decide

/-- The last position each bounded clause speaks of, for the statements about masks and layouts. -/
theorem witness_layouts : 31 < 32 ∧ 63 < 64 ∧ 7 < 8 ∧ 23 < 24 := by decide

theorem witness_TopCodeBitIsSeenByXOnly : Axis.y ≠ Axis.x := by decide

theorem witness_DecodeAxisLaws : Axis.z ≠ Axis.x := by decide

theorem witness_RoundTripOnTheValidRange : (0x1FFFFF : Component).toNat < 2 ^ 21 := by decide

theorem witness_RoundTripOnAllInputs : (0x00200000 : Component).getLsbD 21 = true := by decide

theorem witness_EveryCodeRoundTrips : (0x3FFFFF : Component).toNat < 2 ^ 22 ∧ (0x1FFFFF : Component).toNat < 2 ^ 21 := by
  decide

/-- Masks that meet the hypothesis of the minimality clause: those that keep every bit. -/
theorem witness_TruncationKeepsExactlyTheKeptBits : ∀ x y z : Component,
    mortonEncode ⟨x, y, z⟩ = mortonEncode ⟨x &&& 0xFFFFFFFF, y &&& 0xFFFFFFFF, z &&& 0xFFFFFFFF⟩ := by
  have h : ∀ v : Component, v &&& 0xFFFFFFFF = v := fun v => BitVec.and_allOnes
  intro x y z
  rw [h, h, h]

theorem witness_LanesAreDisjoint : (21 ≤ 20 ∨ (21 = 21 ∧ Axis.x = .x)) ∧ ¬(21 ≤ 20 ∨ (21 = 21 ∧ Axis.z = .x)) ∧
    Axis.y ≠ Axis.z := by decide

theorem witness_OrderIsKeptWithinOneAxis : (0x1FFFFE : Component) < 0x1FFFFF ∧ (0x1FFFFF : Component).toNat < 2 ^ 21 ∧
    (0x1FFFFF : Component) < 0x200000 ∧ (0x200000 : Component).toNat < 2 ^ 22 := by decide

theorem witness_TopCodeBitIsBit21OfX : (0x1FFFFF : Component).toNat < 2 ^ 21 := by decide

theorem witness_ReadingsAgreeOffTheDisputedBit : (0xFFDFFFFF : Component).getLsbD 21 = false ∧
    (0x7FFFFFFFFFFFFFFF : Code).getLsbD 63 = false := by decide

theorem witness_CodesFollowTheZOrder : (0x3FFFFF : Component).toNat < 2 ^ 22 ∧ (0x1FFFFF : Component).toNat < 2 ^ 21 ∧
    (1 : Component) ≤ 1 ∧ (0 : Component) ≤ 1 := by decide

theorem witness_OperationsAreLinearOverOr : (0x0F : Byte) &&& 0xFF = 0x0F ∧ (1 : Component) &&& 3 = 1 ∧
    (1 : Code) &&& 3 = 1 := by decide

end Sys2Proof.Tests
end

section
/-! Which words decode to an operation: exactly the operation's own request word (30_encoding.md R78 to R80, R83). -/
namespace Sys2Proof

/-- The three fields fix a request word. -/
theorem eq_requestWord_iff (w : ReqWord) (op : BitVec 3) (axis : BitVec 2) (p : BitVec 96) :
    w = requestWord op axis p ↔ opField w = op ∧ axisField w = axis ∧ payloadField w = p := by
  conv_lhs => rw [← requestWord_fields w, requestWord_inj]

/-- Decoding the word of an operation gives the operation back, at every operand value (R80, R85). -/
theorem decodeWord_encodeWord (i : Instr) : decodeWord (encodeWord i) = .ok i := by
  cases i with
  | encode x y z =>
    rw [encodeWord, decodeWord_requestWord]
    exact (readV_eq_ok ..).2 ⟨x, y, z, rfl, rfl⟩
  | interleave b | packX b | packY b | packZ b | encodeAxisX b | encodeAxisY b | encodeAxisZ b | decodeAxisX b
  | decodeAxisY b | decodeAxisZ b | decode b =>
    rw [encodeWord, decodeWord_requestWord]
    exact (readLow_eq_ok (by decide) ..).2 ⟨b, rfl, rfl⟩

/-- What a one-operand format reads under a pair of `op` and `axis` encodes back to the same fields. -/
theorem encodeWord_of_readLow {n : Nat} {mk : BitVec n → Instr} {op : BitVec 3} {axis : BitVec 2} {p : BitVec 96}
    {i : Instr} (hn : n ≤ 96) (hmk : ∀ x, encodeWord (mk x) = requestWord op axis (x.setWidth 96))
    (h : readLow n mk p = .ok i) : encodeWord i = requestWord op axis p := by
  obtain ⟨x, rfl, rfl⟩ := (readLow_eq_ok hn mk p i).1 h
  exact hmk x

/-- Fields that decode are the fields of the operation's own word: no bit of a legal word is without meaning (R83). -/
theorem encodeWord_of_decodeFields {op axis : Nat} {p : BitVec 96} {i : Instr} (h : decodeFields op axis p = .ok i) :
    encodeWord i = requestWord (.ofNat 3 op) (.ofNat 2 axis) p := by
  unfold decodeFields at h
  split at h
  -- the arm of `ENCODE`, the only format V
  case h_15 =>
    obtain ⟨x, y, z, rfl, rfl⟩ := (readV_eq_ok ..).1 h
    rfl
  -- the arms that refuse the word
  case h_2 | h_6 | h_10 | h_14 | h_16 | h_18 | h_19 => cases h
  -- the eleven one-operand arms
  all_goals exact encodeWord_of_readLow (by decide) (fun _ => rfl) h

/-- A word decodes to an operation exactly when it is the operation's request word. -/
theorem decodeWord_eq_ok_iff (w : ReqWord) (i : Instr) : decodeWord w = .ok i ↔ w = encodeWord i := by
  constructor
  · intro h
    have he := encodeWord_of_decodeFields h
    rw [BitVec.ofNat_toNat, BitVec.ofNat_toNat, BitVec.setWidth_eq, BitVec.setWidth_eq, requestWord_fields] at he
    exact he.symm
  · rintro rfl
    exact decodeWord_encodeWord i

/-- The same by fields, for an operation whose request word has the fields `op`, `axis` and `p` (R78 to R80). -/
theorem decodeWord_eq_ok_iff_fields {i : Instr} {op : BitVec 3} {axis : BitVec 2} {p : BitVec 96}
    (hi : encodeWord i = requestWord op axis p) (w : ReqWord) :
    decodeWord w = .ok i ↔ opField w = op ∧ axisField w = axis ∧ payloadField w = p := by
  rw [decodeWord_eq_ok_iff, hi, eq_requestWord_iff]

end Sys2Proof
end

section
/-! The byte interleaver and the packing tables (40_byte_interleaver.md R100 to R108). -/
namespace Sys2Proof.Machine

/-- The algorithm meets the contract at every position of its working word (R101, R104). -/
theorem interleaveAlg_getLsbD (b : Byte) (p : Nat) :
    (interleaveAlg b).getLsbD p = (decide (p % 3 = 0) && b.getLsbD (p / 3)) := by
  by_cases h : p < 32
  · interval_cases p <;>
      simp [interleaveAlg, interleaveW3, interleaveW2, interleaveW1, spreadLevel, widenByte, im4, im3, im2, im1]
  · rw [BitVec.getLsbD_of_ge _ _ (by omega), BitVec.getLsbD_of_ge b _ (by omega), Bool.and_false]

/-- The contract is the low 24 bits of the algorithm's word (R104, R105). -/
theorem interleave_eq_setWidth_interleaveAlg (b : Byte) : interleave b = (interleaveAlg b).setWidth 24 := by
  apply BitVec.eq_of_getLsbD_eq
  intro p _
  rw [interleave_getLsbD, BitVec.getLsbD_setWidth, interleaveAlg_getLsbD, Bool.and_assoc]

theorem interleave_and (p q : Byte) : interleave (p &&& q) = interleave p &&& interleave q := by
  apply BitVec.eq_of_getLsbD_eq
  intro i _
  simp only [interleave_getLsbD, BitVec.getLsbD_and]
  exact inf_inf_distrib_left ..

/-- No spread byte exceeds the spread of `0xFF`, whose bits contain those of every other (R100). -/
theorem interleave_le (b : Byte) : interleave b ≤ 0x249249#24 := by
  have hand : interleave b = interleave b &&& 0x249249#24 :=
    calc interleave b
      _ = interleave (b &&& 0xFF#8) := by rw [show b &&& 0xFF#8 = b from BitVec.and_allOnes]
      _ = interleave b &&& interleave 0xFF#8 := interleave_and b 0xFF#8
      _ = interleave b &&& 0x249249#24 := by rw [show interleave 0xFF#8 = 0x249249#24 by decide]
  rw [hand]
  exact Nat.and_le_right

/-- Bit `i` of the byte stands at bit `3i` (R100). -/
theorem interleave_getLsbD_three_mul (b : Byte) {i : Nat} (hi : i < 8) :
    (interleave b).getLsbD (3 * i) = b.getLsbD i := by
  rw [interleave_getLsbD]
  simp [show 3 * i < 24 by omega]

/-- Every bit off the multiples of 3 is 0 (R100). -/
theorem interleave_getLsbD_off_lane (b : Byte) {p : Nat} (hp : p % 3 ≠ 0) : (interleave b).getLsbD p = false := by
  simp [interleave_getLsbD, hp]

/-- Settles O23: each level is its definition (R101); the table meets the contract, and the contract the algorithm, bit by
bit (R104). -/
theorem tableIsTheAlgorithm : Obligations.TableIsTheAlgorithm := by
  refine ⟨fun b => ⟨rfl, rfl, rfl, rfl⟩, fun b => ⟨ilv_eq_interleave b, ?_⟩⟩
  rw [ilv_eq_interleave, interleave_eq_setWidth_interleaveAlg]

/-- Settles O22, from the word `INTERLEAVE` encodes to and the bits of the contract. -/
theorem interleaveAnswersTheSpreadByte : Obligations.InterleaveAnswersTheSpreadByte := by
  refine ⟨fun b w => decodeWord_eq_ok_iff_fields rfl w, fun b s => exec_eq_answer (.interleave b) s, fun b => ?_,
    by decide, by decide, by decide, by decide, by decide⟩
  exact ⟨fun i hi => interleave_getLsbD_three_mul b hi, fun p hp => interleave_getLsbD_off_lane b hp,
    ilv_eq_interleave b, interleave_le b⟩

/-- Settles O26, from the words the three `PACK` operations encode to and the bits of a packing-table word. -/
theorem packAnswersTheShiftedEntry : Obligations.PackAnswersTheShiftedEntry := by
  refine ⟨fun b w => ⟨decodeWord_eq_ok_iff_fields rfl w, decodeWord_eq_ok_iff_fields rfl w,
      decodeWord_eq_ok_iff_fields rfl w⟩, fun b s => ?_, fun a b => ⟨rfl, fun p hp => ?_⟩, fun a => ?_, fun b => ?_,
    by decide, by decide, by decide⟩
  · rw [ilv_eq_interleave]
    exact ⟨exec_eq_answer (.packX b) s, exec_eq_answer (.packY b) s, exec_eq_answer (.packZ b) s⟩
  · rw [← pack, pack_getLsbD]
    by_cases hlane : p % 3 = lane a <;> simp [hp, hlane]
  · cases a <;> decide
  · rw [pack, lane, BitVec.shiftLeft_zero, ilv_eq_interleave]

end Sys2Proof.Machine
end

section
/-! The encoder (41_encoder.md R120 to R128). -/
namespace Sys2Proof

/-- The three fields of format V fix a payload, as no bit of it is unused (R80). -/
theorem eq_payloadV_iff (p : BitVec 96) (x y z : Component) :
    p = payloadV x y z ↔ p.extractLsb' 0 32 = x ∧ p.extractLsb' 32 32 = y ∧ p.extractLsb' 64 32 = z :=
  calc p = payloadV x y z
    _ ↔ readV .encode p = .ok (.encode x y z) := by simp [readV_eq_ok]
    _ ↔ _ := by simp [readV]

end Sys2Proof

namespace Sys2Proof.Machine

/-- Only the kept bits of a component reach its contribution (R126). -/
theorem encodeAxis_and_keep (a : Axis) (v : Component) : encodeAxis a (v &&& keep a) = encodeAxis a v := by
  apply BitVec.eq_of_getLsbD_eq
  intro p hp
  simp only [encodeAxis_getLsbD, BitVec.getLsbD_and, keep_getLsbD]
  by_cases hlane : p % 3 = lane a
  · have hkept : 3 * (p / 3) + lane a < 64 := by omega
    simp [hkept]
  · simp [hlane]

/-- A component with no kept bit contributes nothing (R121). -/
theorem encodeAxis_eq_zero {a : Axis} {v : Component} (h : v &&& keep a = 0) : encodeAxis a v = 0 := by
  rw [← encodeAxis_and_keep, h]
  cases a <;> decide

/-- The kept bits are among the low 24, so a component with none of these has no kept bit (R121). -/
theorem and_keep_eq_zero {v : Component} (a : Axis) (h : v &&& 0x00FFFFFF = 0) : v &&& keep a = 0 :=
  calc v &&& keep a
    _ = v &&& (0x00FFFFFF &&& keep a) := by rw [show 0x00FFFFFF &&& keep a = keep a by cases a <;> decide]
    _ = (v &&& 0x00FFFFFF) &&& keep a := (BitVec.and_assoc ..).symm
    _ = 0 := by rw [h]; exact BitVec.zero_and

/-- A component of ones contributes a one at every position of its lane (R121). -/
theorem encodeAxis_ones (a : Axis) : encodeAxis a 0xFFFFFFFF = lanepos a := by
  cases a <;> decide

/-- Settles O30: the decoder by the words the operations encode to, the placement by definition, and the vanishing corner
cases from what each axis keeps. -/
theorem encodeAxisAnswersThePlacedWords : Obligations.EncodeAxisAnswersThePlacedWords := by
  refine ⟨fun v w => ⟨decodeWord_eq_ok_iff_fields rfl w, decodeWord_eq_ok_iff_fields rfl w,
      decodeWord_eq_ok_iff_fields rfl w⟩,
    fun v s => ⟨exec_eq_answer (.encodeAxisX v) s, exec_eq_answer (.encodeAxisY v) s,
      exec_eq_answer (.encodeAxisZ v) s⟩,
    fun a v => rfl, fun a => ⟨?_, encodeAxis_ones a, ?_, ?_, fun v hv => ?_⟩, by decide⟩
  · exact encodeAxis_eq_zero BitVec.zero_and
  · exact encodeAxis_eq_zero (by cases a <;> decide)
  · exact encodeAxis_eq_zero (by cases a <;> decide)
  · exact encodeAxis_eq_zero (and_keep_eq_zero a hv)

/-- Settles O35: the decoder by the word of `ENCODE` and the fields of its payload, the result by definition. -/
theorem encodeAnswersTheOrOfThree : Obligations.EncodeAnswersTheOrOfThree := by
  refine ⟨fun x y z w => ?_, fun x y z s => exec_eq_answer (.encode x y z) s, fun t => rfl, by decide⟩
  rw [decodeWord_eq_ok_iff_fields (i := .encode x y z) rfl, eq_payloadV_iff]

end Sys2Proof.Machine
end

section
/-! The decoder (42_decoder.md R140 to R150). -/
namespace Sys2Proof.Machine

/-- Every bit after the lane shift is the code bit one lane offset above it (R141). -/
theorem cascadeS0_getLsbD (a : Axis) (c : Code) (p : Nat) : (cascadeS0 a c).getLsbD p = c.getLsbD (p + lane a) := by
  rw [cascadeS0, BitVec.getLsbD_ushiftRight, Nat.add_comm]

/-- The lane shift enters as many zeros at the top as the lane offset (R141). -/
theorem cascadeS0_getLsbD_top (a : Axis) (c : Code) {p : Nat} (hp : 64 ≤ p + lane a) :
    (cascadeS0 a c).getLsbD p = false := by
  rw [cascadeS0_getLsbD, BitVec.getLsbD_of_ge c _ hp]

/-- The last mask of the cascade leaves the low 32 bits only (R146). -/
theorem cascadeS6_toNat_lt (a : Axis) (c : Code) : (cascadeS6 a c).toNat < 2 ^ 32 :=
  calc (cascadeS6 a c).toNat
    _ ≤ dm5.toNat := Nat.and_le_right
    _ < 2 ^ 32 := by decide

/-- Only the code bits of its own lane reach a component (R140, R148). -/
theorem decodeAxis_and_lanepos (a : Axis) (c : Code) : decodeAxis a (c &&& lanepos a) = decodeAxis a c := by
  apply BitVec.eq_of_getLsbD_eq
  intro k _
  have hlane := lane_lt a
  have hmod : (3 * k + lane a) % 3 = lane a := by omega
  rw [decodeAxis_getLsbD, decodeAxis_getLsbD, BitVec.getLsbD_and, lanepos_getLsbD]
  by_cases hp : 3 * k + lane a < 64
  · simp [hp, hmod]
  · simp [BitVec.getLsbD_of_ge c _ (not_lt.mp hp)]

/-- A code with no bit in the lane of an axis decodes to 0 on it (R140). -/
theorem decodeAxis_eq_zero {a : Axis} {c : Code} (h : c &&& lanepos a = 0) : decodeAxis a c = 0 := by
  rw [← decodeAxis_and_lanepos, h]
  cases a <;> decide

/-- Settles O39: the decoder by the words the operations encode to, the six steps by definition, and the vanishing corner
cases from the lane each axis reads. -/
theorem decodeAxisAnswersTheCascade : Obligations.DecodeAxisAnswersTheCascade :=
  ⟨fun c w => ⟨decodeWord_eq_ok_iff_fields rfl w, decodeWord_eq_ok_iff_fields rfl w,
      decodeWord_eq_ok_iff_fields rfl w⟩,
    fun c s => ⟨exec_eq_answer (.decodeAxisX c) s, exec_eq_answer (.decodeAxisY c) s,
      exec_eq_answer (.decodeAxisZ c) s⟩,
    fun a c => ⟨rfl, rfl, rfl, rfl, rfl, rfl, rfl, rfl⟩,
    fun a => ⟨decodeAxis_eq_zero BitVec.zero_and, fun c hc => decodeAxis_eq_zero hc⟩, by decide⟩

/-- Settles O46: the decoder by the word of `DECODE`, the triple by definition. -/
theorem decodeAnswersTheTriple : Obligations.DecodeAnswersTheTriple :=
  ⟨fun c w => decodeWord_eq_ok_iff_fields rfl w, fun c s => exec_eq_answer (.decode c) s,
    by decide, by decide, by decide, by decide, by decide, fun c => rfl⟩

/-- Settles O40, from the position each code bit moves to. -/
theorem laneShiftAlignsTheAxis : Obligations.LaneShiftAlignsTheAxis :=
  ⟨fun a c => ⟨rfl, fun k => cascadeS0_getLsbD a c (3 * k)⟩,
    fun c => ⟨BitVec.ushiftRight_zero c, cascadeS0_getLsbD_top .y c (by decide), cascadeS0_getLsbD_top .z c (by decide),
      cascadeS0_getLsbD_top .z c (by decide)⟩⟩

/-- Settles O42: the last step is below `2 ^ 32`, so its upper bits are 0 and its low 32 bits are the same number. -/
theorem narrowingLosesNothing : Obligations.NarrowingLosesNothing := by
  intro a c
  have hlt := cascadeS6_toNat_lt a c
  refine ⟨rfl, fun p hp => getLsbD_of_lt _ hlt hp, ?_⟩
  rw [decodeAxis, narrowCode, BitVec.toNat_setWidth, Nat.mod_eq_of_lt hlt]

end Sys2Proof.Machine
end

section
/-! The round trip of a triple (43_laws.md R160, R161): what `DECODE` reads in a code of three contributions. -/
namespace Sys2Proof.Machine

/-- `DECODE_AXIS` moves bits and clears bits, so it goes through OR. -/
theorem decodeAxis_or (a : Axis) (c d : Code) : decodeAxis a (c ||| d) = decodeAxis a c ||| decodeAxis a d := by
  apply BitVec.eq_of_getLsbD_eq
  intro k _
  simp only [decodeAxis_getLsbD, BitVec.getLsbD_or]

/-- Of its own contribution an axis reads back exactly the kept bits (R74, R161). -/
theorem decodeAxis_encodeAxis_same (a : Axis) (v : Component) : decodeAxis a (encodeAxis a v) = v &&& keep a := by
  apply BitVec.eq_of_getLsbD_eq
  intro k _
  have hlane := lane_lt a
  have hmod : (3 * k + lane a) % 3 = lane a := by omega
  have hdiv : (3 * k + lane a) / 3 = k := by omega
  rw [decodeAxis_getLsbD, encodeAxis_getLsbD, decide_eq_true hmod, hdiv, Bool.and_true, BitVec.getLsbD_and,
    keep_getLsbD, Bool.and_comm]

/-- In the contribution of another axis an axis reads nothing, as their lanes are disjoint (R74). -/
theorem decodeAxis_encodeAxis_of_ne {a a' : Axis} (h : a ≠ a') (v : Component) :
    decodeAxis a (encodeAxis a' v) = 0 := by
  apply BitVec.eq_of_getLsbD_eq
  intro k _
  have hlane := lane_lt a
  have hmod : (3 * k + lane a) % 3 ≠ lane a' := by
    have hne := lane_ne h
    omega
  rw [decodeAxis_getLsbD, encodeAxis_getLsbD, decide_eq_false hmod, Bool.and_false, Bool.false_and,
    BitVec.ofNat_eq_ofNat, BitVec.getLsbD_zero]

/-- Decoding the code of a triple gives back the kept bits of each component (R161). -/
theorem mortonDecode_mortonEncode (t : Triple) :
    mortonDecode (mortonEncode t) = ⟨t.x &&& keep .x, t.y &&& keep .y, t.z &&& keep .z⟩ := by
  simp [mortonDecode, mortonEncode, decodeAxis_or, decodeAxis_encodeAxis_same, decodeAxis_encodeAxis_of_ne]

/-- Every axis keeps the low 21 bits, so a component below `2 ^ 21` is kept whole (R74). -/
theorem and_keep_eq_self (a : Axis) {v : Component} (h : v.toNat < 2 ^ 21) : v &&& keep a = v := by
  apply BitVec.eq_of_getLsbD_eq
  intro k _
  rw [BitVec.getLsbD_and, keep_getLsbD]
  by_cases hk : k < 21
  · have hlane := lane_lt a
    have hkept : 3 * k + lane a < 64 := by omega
    simp [hkept]
  · rw [getLsbD_of_lt v h (not_lt.mp hk), Bool.false_and]

/-- Settles O47: decoding restores the kept bits, and a component below `2 ^ 21` has no others. -/
theorem roundTripOnTheValidRange : Obligations.RoundTripOnTheValidRange := by
  intro t hx hy hz
  rw [mortonDecode_mortonEncode, and_keep_eq_self .x hx, and_keep_eq_self .y hy, and_keep_eq_self .z hz]

end Sys2Proof.Machine
end

section
/-! The absence of exceptions (60_exceptions.md R190). -/
namespace Sys2Proof.Machine

/-- The list of exception causes is empty (R190), so no step has one to stop with. -/
theorem step_ne_fault (s : State) (f : Fault) : step s ≠ .fault f := by
  cases f

/-- Settles O13: every operation answers with the response of its own operands, and there is no fault to raise. -/
theorem noOperationRaisesAnException : Obligations.NoOperationRaisesAnException := by
  unfold Obligations.NoOperationRaisesAnException
  constructor
  · intro i s
    have hanswer : exec i s = .next ⟨s.pending, s.served ++ [⟨i, responseOf i⟩]⟩ := by
      rw [exec_eq_answer, answer_eq]
    exact ⟨responseOf i, hanswer⟩
  · exact step_ne_fault

end Sys2Proof.Machine
end

section
/-! The decoder and the encoder of request words (30_encoding.md R78 to R85). -/
namespace Sys2Proof

/-- Settles O5: the word of each operation holds the fields its own arm of the decoder reads. -/
theorem decodeInvertsEncodeWord : Obligations.DecodeInvertsEncodeWord :=
  decodeWord_encodeWord

/-- Settles O6: the only word that decodes to an operation is its own. -/
theorem encodeWordInvertsDecode : Obligations.EncodeWordInvertsDecode :=
  fun w i h => ((decodeWord_eq_ok_iff w i).1 h).symm

theorem encodeWord_injective : Function.Injective encodeWord := by
  intro i j h
  have hij : decodeWord (encodeWord i) = .ok j := (decodeWord_eq_ok_iff _ j).2 h
  rw [decodeWord_encodeWord] at hij
  exact Except.ok.inj hij

/-- The row of an operation with its one operand in the low `n` payload bits; with `n = 96` no payload bit is unused (R83).
-/
def formatRow (mnemonic : String) (op : BitVec 3) (axis : BitVec 2) (n : Nat) : OpcodeRow :=
  ⟨mnemonic, requestWord op axis 0, requestWord 7 3 (BitVec.allOnes 96 <<< n)⟩

/-- The twelve rows by operation, axis and operand width (R79, R80, R83). -/
theorem opcodeRows_eq : opcodeRows =
    [formatRow "INTERLEAVE" 0 0 8, formatRow "PACK.X" 1 0 8, formatRow "PACK.Y" 1 1 8, formatRow "PACK.Z" 1 2 8,
     formatRow "ENCODE_AXIS.X" 2 0 32, formatRow "ENCODE_AXIS.Y" 2 1 32, formatRow "ENCODE_AXIS.Z" 2 2 32,
     formatRow "DECODE_AXIS.X" 3 0 64, formatRow "DECODE_AXIS.Y" 3 1 64, formatRow "DECODE_AXIS.Z" 3 2 64,
     formatRow "ENCODE" 4 0 96, formatRow "DECODE" 5 0 64] := by decide

/-- A payload has none of its bits from `n` on exactly when masking these bits gives 0. -/
theorem and_allOnes_shiftLeft_eq_zero_iff (p : BitVec 96) (n : Nat) :
    p &&& (BitVec.allOnes 96 <<< n) = 0 ↔ p.extractLsb' n (96 - n) = 0 := by
  have hand : ∀ i, (p &&& (BitVec.allOnes 96 <<< n)).getLsbD i = (p.getLsbD i && (decide (i < 96) && decide (n ≤ i))) := by
    intro i
    rw [BitVec.getLsbD_and, BitVec.getLsbD_shiftLeft, BitVec.getLsbD_allOnes, ← decide_not]
    by_cases h96 : i < 96
    · simp [h96, show i - n < 96 by omega]
    · simp [h96]
  constructor <;> intro h <;> apply BitVec.eq_of_getLsbD_eq <;> intro i hi
  · have hbit := (hand (n + i)).symm.trans (congrArg (fun q => q.getLsbD (n + i)) h)
    simpa [hi, show n + i < 96 by omega] using hbit
  · have hbit := congrArg (fun q => q.getLsbD (i - n)) h
    rw [hand]
    by_cases hn : n ≤ i
    · simpa [hi, hn, show i - n < 96 - n by omega] using hbit
    · simp [hn]

/-- A word matches a row when it has the row's operation and axis and no payload bit outside the operand (R83). -/
theorem formatRow_matchesWord (m : String) (op : BitVec 3) (axis : BitVec 2) (n : Nat) (w : ReqWord) :
    (formatRow m op axis n).matchesWord w = true ↔
      opField w = op ∧ axisField w = axis ∧ (payloadField w).extractLsb' n (96 - n) = 0 := by
  have hop : opField w &&& 7 = opField w := BitVec.and_allOnes
  have haxis : axisField w &&& 3 = axisField w := BitVec.and_allOnes
  rw [OpcodeRow.matchesWord, formatRow, beq_iff_eq]
  conv_lhs => rw [← requestWord_fields w, requestWord_and, requestWord_inj, hop, haxis,
    and_allOnes_shiftLeft_eq_zero_iff]

/-- A word that matches a one-operand row decodes to an operation of the row's name. -/
theorem decodes_of_formatRow {n : Nat} {mk : BitVec n → Instr} {m : String} {op : BitVec 3} {axis : BitVec 2} {w : ReqWord}
    (henc : ∀ x, encodeWord (mk x) = requestWord op axis (x.setWidth 96)) (hname : ∀ x, (mk x).mnemonic = m)
    (h : (formatRow m op axis n).matchesWord w = true) : ∃ i, decodeWord w = .ok i ∧ i.mnemonic = m := by
  obtain ⟨hop, haxis, hhigh⟩ := (formatRow_matchesWord ..).1 h
  refine ⟨mk ((payloadField w).extractLsb' 0 n), ?_, hname _⟩
  rw [decodeWord_eq_ok_iff, henc, eq_requestWord_iff]
  exact ⟨hop, haxis, eq_setWidth_extractLow hhigh⟩

/-- A word with the fields of `ENCODE` decodes to it, whatever its payload (R80). -/
theorem decodes_of_encodeRow {w : ReqWord} (h : (formatRow "ENCODE" 4 0 96).matchesWord w = true) :
    ∃ i, decodeWord w = .ok i ∧ i.mnemonic = "ENCODE" := by
  obtain ⟨hop, haxis, -⟩ := (formatRow_matchesWord ..).1 h
  refine ⟨.encode ((payloadField w).extractLsb' 0 32) ((payloadField w).extractLsb' 32 32)
    ((payloadField w).extractLsb' 64 32), ?_, rfl⟩
  rw [decodeWord_eq_ok_iff, encodeWord, eq_requestWord_iff]
  exact ⟨hop, haxis, (eq_payloadV_iff ..).2 ⟨rfl, rfl, rfl⟩⟩

/-- A word that matches a row decodes to an operation of the row's name (R83). -/
theorem decodes_of_matchesWord {w : ReqWord} {r : OpcodeRow} (hr : r ∈ opcodeRows) (h : r.matchesWord w = true) :
    ∃ i, decodeWord w = .ok i ∧ i.mnemonic = r.mnemonic := by
  simp only [opcodeRows_eq, List.mem_cons, List.not_mem_nil, or_false] at hr
  rcases hr with rfl | rfl | rfl | rfl | rfl | rfl | rfl | rfl | rfl | rfl | rfl | rfl
  · exact decodes_of_formatRow (mk := .interleave) (fun _ => rfl) (fun _ => rfl) h
  · exact decodes_of_formatRow (mk := .packX) (fun _ => rfl) (fun _ => rfl) h
  · exact decodes_of_formatRow (mk := .packY) (fun _ => rfl) (fun _ => rfl) h
  · exact decodes_of_formatRow (mk := .packZ) (fun _ => rfl) (fun _ => rfl) h
  · exact decodes_of_formatRow (mk := .encodeAxisX) (fun _ => rfl) (fun _ => rfl) h
  · exact decodes_of_formatRow (mk := .encodeAxisY) (fun _ => rfl) (fun _ => rfl) h
  · exact decodes_of_formatRow (mk := .encodeAxisZ) (fun _ => rfl) (fun _ => rfl) h
  · exact decodes_of_formatRow (mk := .decodeAxisX) (fun _ => rfl) (fun _ => rfl) h
  · exact decodes_of_formatRow (mk := .decodeAxisY) (fun _ => rfl) (fun _ => rfl) h
  · exact decodes_of_formatRow (mk := .decodeAxisZ) (fun _ => rfl) (fun _ => rfl) h
  · exact decodes_of_encodeRow h
  · exact decodes_of_formatRow (mk := .decode) (fun _ => rfl) (fun _ => rfl) h

/-- The word of every operation matches the row of its name (R83). -/
theorem encodeWord_matchesRow (i : Instr) :
    ∃ r ∈ opcodeRows, r.mnemonic = i.mnemonic ∧ r.matchesWord (encodeWord i) = true := by
  cases i with
  | interleave b => exact Laws.RowMatches.interleave b
  | packX b => exact Laws.RowMatches.packX b
  | packY b => exact Laws.RowMatches.packY b
  | packZ b => exact Laws.RowMatches.packZ b
  | encodeAxisX v => exact Laws.RowMatches.encodeAxisX v
  | encodeAxisY v => exact Laws.RowMatches.encodeAxisY v
  | encodeAxisZ v => exact Laws.RowMatches.encodeAxisZ v
  | decodeAxisX c => exact Laws.RowMatches.decodeAxisX c
  | decodeAxisY c => exact Laws.RowMatches.decodeAxisY c
  | decodeAxisZ c => exact Laws.RowMatches.decodeAxisZ c
  | encode x y z => exact Laws.RowMatches.encode x y z
  | decode c => exact Laws.RowMatches.decode c

/-- The well-formed words are those that decode (R83, R84). -/
theorem wellFormed_iff_decodes (w : ReqWord) : wellFormed w = true ↔ ∃ i, decodeWord w = .ok i := by
  rw [wellFormed, List.any_eq_true]
  constructor
  · rintro ⟨r, hr, hm⟩
    obtain ⟨i, hi, -⟩ := decodes_of_matchesWord hr hm
    exact ⟨i, hi⟩
  · rintro ⟨i, hi⟩
    rw [(decodeWord_eq_ok_iff w i).1 hi]
    obtain ⟨r, hr, -, hm⟩ := encodeWord_matchesRow i
    exact ⟨r, hr, hm⟩

/-- The ill-formed words are those that the decoder rejects by name (R84, R199). -/
theorem wellFormed_eq_false_iff (w : ReqWord) : wellFormed w = false ↔ ∃ why, decodeWord w = .error why := by
  rw [← Bool.not_eq_true, wellFormed_iff_decodes]
  cases decodeWord w <;> simp

/-- Every row fixes the five top bits (R83), so a word that matches it has the row's. -/
theorem topBits_of_matchesWord {w : ReqWord} {r : OpcodeRow} (hr : r ∈ opcodeRows) (h : r.matchesWord w = true) :
    w >>> 96 = r.pattern >>> 96 := by
  have hmask : r.mask >>> 96 = BitVec.allOnes 101 >>> 96 :=
    (by decide : ∀ r ∈ opcodeRows, r.mask >>> 96 = BitVec.allOnes 101 >>> 96) r hr
  calc w >>> 96
    _ = (w &&& BitVec.allOnes 101) >>> 96 := by rw [BitVec.and_allOnes]
    _ = w >>> 96 &&& r.mask >>> 96 := by rw [BitVec.ushiftRight_and_distrib, hmask]
    _ = (w &&& r.mask) >>> 96 := (BitVec.ushiftRight_and_distrib ..).symm
    _ = r.pattern >>> 96 := by rw [beq_iff_eq.1 h]

/-- No word matches two rows, as the top bits of the rows' patterns are pairwise different (R83). -/
theorem matchesWord_unique {w : ReqWord} {r r' : OpcodeRow} (hr : r ∈ opcodeRows) (hr' : r' ∈ opcodeRows)
    (h : r.matchesWord w = true) (h' : r'.matchesWord w = true) : r = r' := by
  have htop : r.pattern >>> 96 = r'.pattern >>> 96 :=
    (topBits_of_matchesWord hr h).symm.trans (topBits_of_matchesWord hr' h')
  have hinj : ∀ r ∈ opcodeRows, ∀ r' ∈ opcodeRows, r.pattern >>> 96 = r'.pattern >>> 96 → r = r' := by decide
  exact hinj r hr r' hr' htop

/-- The five top bits of a word are `op` and `axis` side by side (R78). -/
theorem toNat_topBits (w : ReqWord) : (w >>> 96).toNat = (opField w).toNat * 4 + (axisField w).toNat := by
  have hw := w.isLt
  simp only [opField, axisField, BitVec.toNat_ushiftRight, BitVec.extractLsb'_toNat, Nat.shiftRight_eq_div_pow]
  omega

/-- Settles O4: each row is matched by the words of its own operations alone, and the top bits tell the rows apart. -/
theorem opcodeTableFixesTheOperation : Obligations.OpcodeTableFixesTheOperation := by
  refine ⟨by decide, fun r w => rfl, by decide, toNat_topBits, fun w r hr r' hr' h h' => matchesWord_unique hr hr' h h',
    fun w r hr h => decodes_of_matchesWord hr h, fun w i h => ?_⟩
  rw [(decodeWord_eq_ok_iff w i).1 h]
  obtain ⟨r, hr, hname, hm⟩ := encodeWord_matchesRow i
  exact ⟨r, hr, hm, hname⟩

end Sys2Proof
end

section
/-! One step and one run, by the word it serves (00_scope.md R11). -/
namespace Sys2Proof.Machine

/-- With no request waiting a step leaves the state as it is (entry 4). -/
theorem step_idle {s : State} (h : s.pending = []) : step s = .next s := by
  rw [step, h]

/-- A step runs the operation its first word spells, on the words behind it. -/
theorem step_eq_exec {s : State} {w : ReqWord} {rest : List ReqWord} {i : Instr} (hs : s.pending = w :: rest)
    (hw : decodeWord w = .ok i) : step s = exec i ⟨rest, s.served⟩ := by
  simp only [step, hs, hw]

/-- A step that serves a word answers, and records the response of the word's operation (R205). -/
theorem step_serves {s : State} {w : ReqWord} {rest : List ReqWord} {i : Instr} (hs : s.pending = w :: rest)
    (hw : decodeWord w = .ok i) : step s = .next ⟨rest, s.served ++ [⟨i, responseOf i⟩]⟩ := by
  rw [step_eq_exec hs hw, exec_eq_answer, answer_eq]

/-- A step refuses a word that spells no operation, with the decoder's name for it (R84, R199). -/
theorem step_refuses {s : State} {w : ReqWord} {rest : List ReqWord} {why : Reject} (hs : s.pending = w :: rest)
    (hw : decodeWord w = .error why) : step s = .refused (.illFormedRequest why) := by
  simp only [step, hs, hw]

end Sys2Proof.Machine
end

section
/-! The words that spell no operation, and the name each gets (30_encoding.md R84). -/
namespace Sys2Proof

theorem decodeFields_reservedOp {op : Nat} (axis : Nat) (p : BitVec 96) (h : 6 ≤ op) :
    decodeFields op axis p = .error .reservedOp := by
  unfold decodeFields
  split
  case h_19 => rfl
  all_goals omega

theorem decodeFields_reservedAxis {op : BitVec 3} (p : BitVec 96) (h : op = 1 ∨ op = 2 ∨ op = 3) :
    decodeFields op.toNat 3 p = .error .reservedAxis := by
  rcases h with rfl | rfl | rfl <;> rfl

theorem decodeFields_axisNotZero {op : BitVec 3} {axis : Nat} (p : BitVec 96) (h : op = 0 ∨ op = 4 ∨ op = 5)
    (haxis : axis ≠ 0) : decodeFields op.toNat axis p = .error .axisNotZero := by
  obtain ⟨k, rfl⟩ := Nat.exists_eq_succ_of_ne_zero haxis
  rcases h with rfl | rfl | rfl <;> rfl

theorem readLow_payloadNotZero {n : Nat} (mk : BitVec n → Instr) {p : BitVec 96} (h : p.extractLsb' n (96 - n) ≠ 0) :
    readLow n mk p = .error .payloadNotZero :=
  if_neg h

theorem axis_ne_three_iff : ∀ axis : BitVec 2, axis ≠ 3 ↔ axis = 0 ∨ axis = 1 ∨ axis = 2 := by decide

theorem op_cases : ∀ op : BitVec 3, op = 0 ∨ op = 1 ∨ op = 2 ∨ op = 3 ∨ op = 4 ∨ op = 5 ∨ op = 6 ∨ op = 7 := by decide

/-- The twelve rows by the fields they fix, those of one operand width together (R83). -/
theorem wellFormed_iff_fields (w : ReqWord) : wellFormed w = true ↔
    ((opField w = 0 ∧ axisField w = 0 ∨ opField w = 1 ∧ axisField w ≠ 3) ∧ (payloadField w).extractLsb' 8 88 = 0) ∨
    (opField w = 2 ∧ axisField w ≠ 3 ∧ (payloadField w).extractLsb' 32 64 = 0) ∨
    ((opField w = 3 ∧ axisField w ≠ 3 ∨ opField w = 5 ∧ axisField w = 0) ∧ (payloadField w).extractLsb' 64 32 = 0) ∨
    (opField w = 4 ∧ axisField w = 0) := by
  have hnone : (payloadField w).extractLsb' 96 0 = 0 := BitVec.of_length_zero
  simp only [wellFormed, opcodeRows_eq, List.any_cons, List.any_nil, Bool.or_eq_true, formatRow_matchesWord,
    axis_ne_three_iff, hnone]
  grind

/-- A word fits no row exactly when it breaks one of the checks of R84: by `op`, by `axis`, and by which unused part of the
payload is not 0. -/
theorem wellFormed_eq_false_iff_fields (w : ReqWord) : wellFormed w = false ↔
    (6 ≤ (opField w).toNat ∨ axisField w = 3 ∨
      (axisField w ≠ 0 ∧ (opField w = 0 ∨ opField w = 4 ∨ opField w = 5)) ∨
      ((opField w = 0 ∨ opField w = 1) ∧ (payloadField w).extractLsb' 8 88 ≠ 0) ∨
      (opField w = 2 ∧ (payloadField w).extractLsb' 32 64 ≠ 0) ∨
      ((opField w = 3 ∨ opField w = 5) ∧ (payloadField w).extractLsb' 64 32 ≠ 0)) := by
  rw [← Bool.not_eq_true, wellFormed_iff_fields]
  generalize opField w = op
  rcases op_cases op with rfl | rfl | rfl | rfl | rfl | rfl | rfl | rfl <;> grind

/-- Settles O2: the ill-formed words are those the decoder rejects, and a step refuses with the decoder's name. -/
theorem illFormedWordsAreRefusedByName : Obligations.IllFormedWordsAreRefusedByName := by
  refine ⟨wellFormed_eq_false_iff_fields, fun w => (wellFormed_iff_decodes w).1, fun w hw => ?_⟩
  obtain ⟨why, hwhy⟩ := (wellFormed_eq_false_iff w).1 hw
  exact ⟨why, hwhy, fun s rest hs => Machine.step_refuses hs hwhy⟩

/-- Settles O3: each pair of `op` and `axis` has its own arm of the decoder, and the payload is looked at last. -/
theorem refusalNamesTheFirstCheckBroken : Obligations.RefusalNamesTheFirstCheckBroken := by
  intro w
  refine ⟨fun hop => decodeFields_reservedOp _ _ hop, fun hop haxis => ?_, fun hop haxis => ?_, fun hfields hp => ?_,
    fun hop haxis hp => ?_, fun hfields hp => ?_⟩ <;> rw [decodeWord]
  · rw [haxis]
    exact decodeFields_reservedAxis _ hop
  · exact decodeFields_axisNotZero _ hop (by simpa [BitVec.toNat_eq] using haxis)
  · rw [axis_ne_three_iff] at hfields
    rcases hfields with ⟨hop, haxis⟩ | ⟨hop, haxis | haxis | haxis⟩ <;> rw [hop, haxis] <;>
      exact readLow_payloadNotZero _ hp
  · rw [axis_ne_three_iff] at haxis
    rcases haxis with haxis | haxis | haxis <;> rw [hop, haxis] <;> exact readLow_payloadNotZero _ hp
  · rw [axis_ne_three_iff] at hfields
    rcases hfields with ⟨hop, haxis | haxis | haxis⟩ | ⟨hop, haxis⟩ <;> rw [hop, haxis] <;>
      exact readLow_payloadNotZero _ hp

end Sys2Proof
end

section
/-! Presented requests, the record and runs of well-formed requests (20_memory.md R59; 70_reset_and_hazards.md R222,
R226). -/
namespace Sys2Proof.Machine

/-- Settles O17: a step adds at most one entry, and that one holds the response of its own request. -/
theorem stepKeepsTheRecordTrue : Obligations.StepKeepsTheRecordTrue := by
  intro s t htrue hstep e he
  obtain ⟨-, rfl⟩ | ⟨w, rest, i, -, -, rfl⟩ := step_cases hstep
  · exact htrue e he
  · rcases List.mem_append.1 he with hold | hnew
    · exact htrue e hold
    · rw [List.mem_singleton.1 hnew]

/-- Settles O18: there is no entry yet. -/
theorem resetRecordIsTrue : Obligations.ResetRecordIsTrue :=
  fun _ he => absurd he List.not_mem_nil

/-- Settles O11, by the definition of the reset state. -/
theorem resetLeavesAnEmptyRecord : Obligations.ResetLeavesAnEmptyRecord :=
  ⟨rfl, rfl⟩

/-- Settles O1. -/
theorem stepRunsTheDecodedRequest : Obligations.StepRunsTheDecodedRequest :=
  fun _ _ _ _ hs hw => step_eq_exec hs hw

/-- Settles O10. -/
theorem idleStepChangesNothing : Obligations.IdleStepChangesNothing :=
  fun _ hs => step_idle hs

/-- Settles O14: the decoder has two outcomes, and a step one for each. -/
theorem stepAnswersOrRefusesTheWord : Obligations.StepAnswersOrRefusesTheWord := by
  intro s w rest hs
  cases hw : decodeWord w with
  | ok i => exact .inl ⟨i, responseOf i, rfl, step_serves hs hw⟩
  | error why => exact .inr ⟨why, rfl, step_refuses hs hw⟩

/-- Settles O12: every operation answers with its entry added and nothing else changed. -/
theorem operationsOnlyExtendTheRecord : Obligations.OperationsOnlyExtendTheRecord := by
  intro i s t h
  rw [exec_eq_answer, answer_eq] at h
  cases h
  exact ⟨rfl, responseOf i, rfl⟩

theorem decodeTableWord_of_lt {n : Nat} (nbits : Nat) (h : n < 2 ^ 101) :
    decodeTableWord nbits n = (decodeWord (BitVec.ofNat 101 n)).toOption := by
  rw [decodeTableWord, readWord, if_pos h]

theorem decodeTableWord_of_le {n : Nat} (nbits : Nat) (h : 2 ^ 101 ≤ n) : decodeTableWord nbits n = none := by
  rw [decodeTableWord, readWord, if_neg (not_lt.2 h)]

/-- Settles O8: the number is compared with the first that is too wide. -/
theorem tableNumbersAreReadAsRequestWords : Obligations.TableNumbersAreReadAsRequestWords :=
  fun nbits _ => ⟨decodeTableWord_of_lt nbits, decodeTableWord_of_le nbits⟩

/-- A number that decodes is below `2 ^ 101`, and is presented as the request word it is (entry 3). -/
theorem withFetchWord_of_decodes {nbits n : Nat} {i : Instr} (h : decodeTableWord nbits n = some i) (s : State) :
    decodeWord (.ofNat 101 n) = .ok i ∧ s.withFetchWord nbits n = ⟨.ofNat 101 n :: s.pending, s.served⟩ := by
  have hn : n < 2 ^ 101 := by
    by_contra hge
    rw [decodeTableWord_of_le nbits (not_lt.1 hge)] at h
    cases h
  rw [decodeTableWord_of_lt nbits hn] at h
  constructor
  · cases hw : decodeWord (.ofNat 101 n) <;> rw [hw] at h <;> cases h
    rfl
  · rw [State.withFetchWord, readWord, if_pos hn]

/-- Settles O9: the presented word is the first one waiting. -/
theorem presentedFirstIsServedNext : Obligations.PresentedFirstIsServedNext := by
  intro s nbits n i h
  obtain ⟨hw, hs⟩ := withFetchWord_of_decodes h s
  rw [hs]
  exact step_eq_exec rfl hw

/-- The entry a request leaves in the record: the request and its own response (R35, R59). -/
def entryOf (i : Instr) : Served := ⟨i, responseOf i⟩

/-- A run over the request words of a list of operations serves them all, in order (R222, R226). -/
theorem endState_encodeWords (is : List Instr) (old : List Served) :
    endState is.length ⟨is.map encodeWord, old⟩ = some ⟨[], old ++ is.map entryOf⟩ := by
  induction is generalizing old with
  | nil => simp
  | cons i is ih =>
    have hstep : step ⟨(i :: is).map encodeWord, old⟩ = .next ⟨is.map encodeWord, old ++ [entryOf i]⟩ :=
      step_serves rfl (decodeWord_encodeWord i)
    rw [List.length_cons, endState_succ hstep, ih, List.append_assoc]
    rfl

/-- Words that decode one by one are the request words of the operations they decode to. -/
theorem map_decodeWord_eq_iff (ws : List ReqWord) (is : List Instr) :
    ws.map decodeWord = is.map .ok ↔ ws = is.map encodeWord := by
  induction ws generalizing is with
  | nil => cases is <;> simp
  | cons w ws ih => cases is <;> simp [decodeWord_eq_ok_iff, ih]

/-- Well-formed words are the request words of some operations (R83). -/
theorem exists_eq_map_encodeWord {ws : List ReqWord} (h : ws.all wellFormed = true) :
    ∃ is : List Instr, ws = is.map encodeWord := by
  induction ws with
  | nil => exact ⟨[], rfl⟩
  | cons w ws ih =>
    rw [List.all_cons, Bool.and_eq_true, wellFormed_iff_decodes] at h
    obtain ⟨⟨i, hi⟩, hws⟩ := h
    obtain ⟨is, rfl⟩ := ih hws
    exact ⟨i :: is, by rw [(decodeWord_eq_ok_iff w i).1 hi, List.map_cons]⟩

/-- Settles O16: the waiting words are those of some operations, and a run serves these. -/
theorem runServesEveryRequest : Obligations.RunServesEveryRequest := by
  rintro ⟨ws, old⟩ h
  obtain ⟨is, rfl⟩ := exists_eq_map_encodeWord (ws := ws) h
  refine ⟨is, rfl, ?_⟩
  rw [List.length_map]
  exact endState_encodeWords is old

/-- Settles O15: a run records the entry of each operation, so permuted words leave permuted entries. -/
theorem orderOfServiceChangesNoResponse : Obligations.OrderOfServiceChangesNoResponse := by
  refine ⟨fun i => ⟨responseOf i, fun s => by rw [exec_eq_answer, answer_eq]⟩, fun ws ws' old hperm hws => ?_⟩
  have hws' : ws'.all wellFormed = true :=
    List.all_eq_true.2 fun w hw => List.all_eq_true.1 hws w (hperm.mem_iff.2 hw)
  obtain ⟨is, rfl⟩ := exists_eq_map_encodeWord hws
  obtain ⟨is', rfl⟩ := exists_eq_map_encodeWord hws'
  have his : is.Perm is' := (List.map_perm_map_iff encodeWord_injective).1 hperm
  refine ⟨is.map entryOf, is'.map entryOf, ?_, ?_, his.map entryOf⟩ <;> rw [List.length_map] <;>
    exact endState_encodeWords _ old

/-- A program is read as its operations exactly when its words decode to them one by one (R84). -/
theorem readProgramFrom_eq_ok_iff (n : Nat) (ws : List ReqWord) (is : List Instr) :
    readProgramFrom n ws = .ok is ↔ ws.map decodeWord = is.map .ok := by
  induction ws generalizing n is with
  | nil => cases is <;> simp [readProgramFrom]
  | cons w ws ih =>
    rw [readProgramFrom]
    cases is with
    | nil => cases decodeWord w <;> cases readProgramFrom (n + 1) ws <;> simp
    | cons i is =>
      rw [List.map_cons, List.map_cons, List.cons.injEq, ← ih (n + 1)]
      cases decodeWord w <;> cases readProgramFrom (n + 1) ws <;> simp

/-- A program counted from `n` is refused at the place and with the name of its first ill-formed word (R84, entry 5). -/
theorem readProgramFrom_eq_error_iff (n : Nat) (ws : List ReqWord) (m : Nat) (why : Reject) :
    readProgramFrom n ws = .error (m, why) ↔
      ∃ k, m = k + n ∧ ∃ w, ws[k]? = some w ∧ decodeWord w = .error why ∧ (ws.take k).all wellFormed = true := by
  induction ws generalizing n with
  | nil => simp [readProgramFrom]
  | cons w ws ih =>
    have hshift : ∀ k, k + 1 + n = k + (n + 1) := fun k => by omega
    rw [readProgramFrom, ← Nat.or_exists_add_one]
    simp only [List.getElem?_cons_succ, List.take_succ_cons, List.all_cons, hshift]
    cases hw : decodeWord w with
    | error why' =>
      have hbad : wellFormed w = false := (wellFormed_eq_false_iff w).2 ⟨why', hw⟩
      simp [hw, hbad, eq_comm]
    | ok i =>
      have hgood : wellFormed w = true := (wellFormed_iff_decodes w).2 ⟨i, hw⟩
      simp only [hgood, Bool.true_and, ← ih (n + 1)]
      cases readProgramFrom (n + 1) ws <;> simp [hw]

/-- Settles O19: reading stops at the first word that does not decode. -/
theorem programRefusalNamesTheFirstBadWord : Obligations.ProgramRefusalNamesTheFirstBadWord := by
  refine ⟨fun ws k why => ?_, fun ws is => readProgramFrom_eq_ok_iff 0 ws is⟩
  rw [readProgram, readProgramFrom_eq_error_iff]
  simp

/-- A program that loads at reset is the request words of some operations, all waiting (R226). -/
theorem loadProgram_reset_eq_ok {ws : List ReqWord} {s : State} (h : loadProgram ws .reset = .ok s) :
    ∃ is : List Instr, ws = is.map encodeWord ∧ s = ⟨ws, []⟩ := by
  unfold loadProgram at h
  split at h
  · cases h
  · rename_i is hread
    cases h
    exact ⟨is, (map_decodeWord_eq_iff ws is).1 ((readProgramFrom_eq_ok_iff 0 ws is).1 hread), rfl⟩

/-- Served one by one, the words of operations have the operations' responses (R59). -/
theorem answers_encodeWords (is : List Instr) : answers (is.map encodeWord) = is.map fun i => some (responseOf i) := by
  rw [answers, List.map_map]
  refine List.map_congr_left fun i _ => ?_
  rw [Function.comp_apply, decodeWord_encodeWord]
  rfl

/-- Settles O20: a loaded program is served whole, and the entries it leaves hold its answers. -/
theorem loadedProgramRunsToItsAnswers : Obligations.LoadedProgramRunsToItsAnswers := by
  intro ws s h
  obtain ⟨is, rfl, rfl⟩ := loadProgram_reset_eq_ok h
  refine ⟨⟨[], is.map entryOf⟩, ?_, rfl, ?_⟩
  · rw [List.length_map]
    exact endState_encodeWords is []
  · rw [answers_encodeWords, List.map_map]
    rfl

end Sys2Proof.Machine
end

section
/-! The widths of the responses (30_encoding.md R82). -/
namespace Sys2Proof.Machine

/-- The response of an operation has the width of its family (R82). -/
theorem responseWidth_responseOf (i : Instr) : responseWidth (responseOf i) =
    if i.mnemonic ∈ ["INTERLEAVE", "PACK.X", "PACK.Y", "PACK.Z"] then 24
    else if i.mnemonic ∈ ["ENCODE_AXIS.X", "ENCODE_AXIS.Y", "ENCODE_AXIS.Z", "ENCODE"] then 64
    else if i.mnemonic ∈ ["DECODE_AXIS.X", "DECODE_AXIS.Y", "DECODE_AXIS.Z"] then 32 else 96 := by
  cases i <;> rfl

/-- The response word of a triple has the layout of a format V payload (R80, R82). -/
theorem responseWord_triple (t : Triple) : responseWord (.triple t) = payloadV t.x t.y t.z := rfl

/-- Settles O21: by the family of each operation, and the layout of the triple's word. -/
theorem responsesHaveTheirWidths : Obligations.ResponsesHaveTheirWidths := by
  refine ⟨fun i s => ⟨responseOf i, ?_, responseWidth_responseOf i⟩, fun _ => rfl, fun _ => rfl, fun _ => rfl, fun t => ?_⟩
  · rw [exec_eq_answer, answer_eq]
  · exact (eq_payloadV_iff _ t.x t.y t.z).1 (responseWord_triple t)

end Sys2Proof.Machine
end

section
/-! Bit vectors spread over every third bit: the one shape that table words and contributions share. -/
namespace Sys2Proof

/-- `X` is `x` spread over the positions of lane `l`: bit `k` of `x` at bit `3k + l`, every other bit 0. -/
def IsSpread {n m : Nat} (l : Nat) (x : BitVec n) (X : BitVec m) : Prop :=
  ∀ p, X.getLsbD p = (decide (p % 3 = l) && x.getLsbD (p / 3))

section
variable {n m l : Nat} {x y : BitVec n} {X Y : BitVec m}

theorem IsSpread.getLsbD_lane (h : IsSpread l x X) (hl : l < 3) (k : Nat) : X.getLsbD (3 * k + l) = x.getLsbD k := by
  rw [h, show (3 * k + l) / 3 = k by omega, decide_eq_true (by omega), Bool.true_and]

/-- Spreading keeps order: the highest bit that differs stays the highest. -/
theorem IsSpread.lt_iff (hX : IsSpread l x X) (hY : IsSpread l y Y) (hl : l < 3) : x < y ↔ X < Y := by
  rw [lt_iff_getLsbD, lt_iff_getLsbD]
  constructor
  · rintro ⟨k, hgt, h0, h1⟩
    refine ⟨3 * k + l, fun j hj => ?_, (hX.getLsbD_lane hl k).trans h0, (hY.getLsbD_lane hl k).trans h1⟩
    rw [hX, hY]
    by_cases hjl : j % 3 = l
    · rw [hgt (j / 3) (by omega)]
    · rw [decide_eq_false hjl, Bool.false_and, Bool.false_and]
  · rintro ⟨p, hgt, h0, h1⟩
    obtain ⟨hp, hy⟩ : p % 3 = l ∧ y.getLsbD (p / 3) = true := by simpa [hY p] using h1
    have hx : x.getLsbD (p / 3) = false := by simpa [hX p, hp] using h0
    refine ⟨p / 3, fun j hj => ?_, hx, hy⟩
    rw [← hX.getLsbD_lane hl, ← hY.getLsbD_lane hl, hgt (3 * j + l) (by omega)]

/-- Spreading loses nothing. -/
theorem IsSpread.inj (hX : IsSpread l x X) (hY : IsSpread l y X) (hl : l < 3) : x = y :=
  BitVec.eq_of_getLsbD_eq fun k _ => by rw [← hX.getLsbD_lane hl, hY.getLsbD_lane hl]

end

/-- What is spread over different lanes shares no bit. -/
theorem IsSpread.and_eq_zero {n m l l' : Nat} {x y : BitVec n} {X Y : BitVec m} (hX : IsSpread l x X)
    (hY : IsSpread l' y Y) (hne : l ≠ l') : X &&& Y = 0 := by
  apply BitVec.eq_of_getLsbD_eq
  intro p _
  rw [BitVec.getLsbD_and, hX, hY]
  by_cases hp : p % 3 = l
  · simp [show p % 3 ≠ l' by omega]
  · simp [hp]

/-- Spreading over the multiples of 3 keeps the number of set bits. -/
theorem countP_range_three_mul (f : Nat → Bool) (n : Nat) :
    (List.range (3 * n)).countP (fun p => decide (p % 3 = 0) && f (p / 3)) = (List.range n).countP f := by
  induction n with
  | zero => rfl
  | succ n ih =>
    rw [show 3 * (n + 1) = 3 * n + 1 + 1 + 1 by omega]
    simp only [List.range_succ, List.countP_append, ih, List.countP_singleton]
    simp [show (3 * n + 1) % 3 = 1 by omega, show (3 * n + 1 + 1) % 3 = 2 by omega]

/-- Masking keeps all of a bit vector exactly when adding its bits to the mask changes nothing. -/
theorem and_eq_left_iff_or_eq_right {n : Nat} (x y : BitVec n) : x &&& y = x ↔ x ||| y = y := by
  have hbit : ∀ a b : Bool, (a && b) = a ↔ (a || b) = b := by decide
  simp only [BitVec.eq_of_getLsbD_eq_iff, BitVec.getLsbD_and, BitVec.getLsbD_or, hbit]

/-- A function that goes through OR takes no bit from the result when the operand gains bits. -/
theorem and_eq_left_of_map_or {n m : Nat} {f : BitVec n → BitVec m} (hf : ∀ x y, f (x ||| y) = f x ||| f y)
    {x y : BitVec n} (h : x &&& y = x) : f x &&& f y = f x := by
  rw [and_eq_left_iff_or_eq_right] at h ⊢
  rw [← hf, h]

end Sys2Proof
end

section
/-! The laws of the byte interleaver and the packing tables (40_byte_interleaver.md R102 to R111; 10_state.md R26, R27). -/
namespace Sys2Proof.Machine

theorem interleave_isSpread (b : Byte) : IsSpread 0 b (interleave b) := by
  intro p
  rw [interleave_getLsbD]
  by_cases hp : p < 24
  · simp [hp]
  · rw [BitVec.getLsbD_of_ge b _ (by omega), Bool.and_false, Bool.and_false]

theorem pack_isSpread (a : Axis) (b : Byte) : IsSpread (lane a) b (pack a b) := by
  intro p
  rw [pack_getLsbD]
  by_cases hp : p < 24
  · simp [hp]
  · rw [BitVec.getLsbD_of_ge b _ (by omega), Bool.and_false, Bool.and_false]

theorem interleave_or (p q : Byte) : interleave (p ||| q) = interleave p ||| interleave q := by
  apply BitVec.eq_of_getLsbD_eq
  intro i _
  simp only [interleave_getLsbD, BitVec.getLsbD_or, Bool.and_or_distrib_left]

theorem pack_or (a : Axis) (p q : Byte) : pack a (p ||| q) = pack a p ||| pack a q := by
  apply BitVec.eq_of_getLsbD_eq
  intro i _
  simp only [pack_getLsbD, BitVec.getLsbD_or, Bool.and_or_distrib_left]

theorem countP_interleave (b : Byte) :
    (List.range 24).countP (fun i => (interleave b).getLsbD i) = (List.range 8).countP (fun i => b.getLsbD i) := by
  simp only [interleave_isSpread b _]
  exact countP_range_three_mul b.getLsbD 8

/-- Every spread byte is part of the spread of `0xFF` (R100). -/
theorem interleave_and_ones (b : Byte) : interleave b &&& 0x249249#24 = interleave b :=
  calc interleave b &&& 0x249249#24
    _ = interleave b &&& interleave 0xFF#8 := by rw [show interleave 0xFF#8 = 0x249249#24 by decide]
    _ = interleave (b &&& 0xFF#8) := (interleave_and b 0xFF#8).symm
    _ = interleave b := by rw [show b &&& 0xFF#8 = b from BitVec.and_allOnes]

/-- A mask with no multiple of 3 in it clears every spread byte. -/
theorem interleave_and_eq_zero (b : Byte) {m : TableWord} (hm : 0x249249#24 &&& m = 0) : interleave b &&& m = 0 := by
  rw [← interleave_and_ones, BitVec.and_assoc, hm]
  exact BitVec.and_zero

/-- Settles O25: interleaving moves each bit of the byte to a place of its own, which is higher the higher the bit. -/
theorem interleaveLaws : Obligations.InterleaveLaws := by
  intro p q
  refine ⟨interleave_or p q, interleave_and p q, fun h => ?_, ?_, countP_interleave p,
    interleave_and_eq_zero p (by decide)⟩
  · exact (interleave_isSpread p).inj (h ▸ interleave_isSpread q) (by decide)
  · exact (interleave_isSpread p).lt_iff (interleave_isSpread q) (by decide)

/-- Settles O28: a packing-table word is the byte spread over the lane of its axis. -/
theorem packLaws : Obligations.PackLaws := by
  refine ⟨pack_or, fun a a' p q h => (pack_isSpread a p).and_eq_zero (pack_isSpread a' q) (lane_ne h), fun p q r i hi => ?_⟩
  simp only [BitVec.getLsbD_or, pack_getLsbD, lane]
  simp [show 3 * i < 24 by omega, show 3 * i + 1 < 24 by omega, show 3 * i + 2 < 24 by omega,
    show (3 * i + 1) / 3 = i by omega, show (3 * i + 2) / 3 = i by omega]

theorem ilv_toNat_le (b : Byte) : (ilv b).toNat ≤ 0x249249 := by
  rw [ilv_eq_interleave]
  exact interleave_le b

/-- The shift by a lane offset is within the word, as no entry exceeds that of `0xFF` (R110). -/
theorem pack_toNat (a : Axis) (b : Byte) : (pack a b).toNat = (ilv b).toNat * 2 ^ lane a := by
  have hpow : 2 ^ lane a ≤ 4 := by cases a <;> decide
  have hlt : (ilv b).toNat * 2 ^ lane a < 2 ^ 24 :=
    lt_of_le_of_lt (Nat.mul_le_mul (ilv_toNat_le b) hpow) (by decide)
  rw [pack, BitVec.toNat_shiftLeft, Nat.shiftLeft_eq, Nat.mod_eq_of_lt hlt]

theorem ilv_getLsbD_of_lt (b : Byte) {p : Nat} (hp : 21 < p) : (ilv b).getLsbD p = false := by
  rw [ilv_getLsbD]
  by_cases h : p < 24
  · simp [show p % 3 ≠ 0 by omega]
  · simp [h]

/-- Settles O27, from the largest entry of the table. -/
theorem laneShiftLosesNothing : Obligations.LaneShiftLosesNothing := by
  refine ⟨fun a b => ⟨fun p hp => ilv_getLsbD_of_lt b hp, fun p hp => BitVec.getLsbD_of_ge _ _ hp, ?_, pack_toNat a b⟩,
    by decide, by decide⟩
  exact Nat.le_of_lt_succ (lane_lt a)

set_option maxRecDepth 10000 in
theorem tables_length : ilvTable.length = Config.tableEntries ∧ packYTable.length = Config.tableEntries ∧
    packZTable.length = Config.tableEntries := by decide

set_option maxRecDepth 100000 in
/-- The listings agree with the shifted entries and with the sum of the spread bits, index by index (R26, R27). -/
theorem tables_listing : ∀ b : Byte,
    ilvTable[b.toNat]? = some (ilv b) ∧ packYTable[b.toNat]? = some (pack .y b) ∧ packZTable[b.toNat]? = some (pack .z b) ∧
    ilv b = ((List.range 8).map fun i => (BitVec.ofBool (b.getLsbD i)).setWidth 24 <<< (3 * i)).sum := by decide

theorem pack_le (b : Byte) : pack .y b ≤ 0x492492#24 ∧ pack .z b ≤ 0x924924#24 := by
  constructor
  · rw [BitVec.le_def, pack_toNat]
    exact Nat.mul_le_mul_right 2 (ilv_toNat_le b)
  · rw [BitVec.le_def, pack_toNat]
    exact Nat.mul_le_mul_right 4 (ilv_toNat_le b)

/-- Settles O29: the three listings index by index, and what the shape of a spread byte says of each entry. -/
theorem tablesHoldTheirListing : Obligations.TablesHoldTheirListing := by
  obtain ⟨hilv, hy, hz⟩ := tables_length
  refine ⟨hilv, hy, hz, fun b => ?_, fun b => ?_, by decide, by decide, by decide, by decide,
    fun b => ?_, fun b i hi => ?_⟩
  · obtain ⟨hilv, hy, hz, hsum⟩ := tables_listing b
    exact ⟨hilv, hy, hz, BitVec.shiftLeft_zero _, hsum, rfl, rfl⟩
  · rw [ilv_eq_interleave]
    exact ⟨interleave_le b, pack_le b⟩
  · rw [ilv_eq_interleave]
    exact interleave_and_eq_zero b (by decide)
  · rw [ilv_eq_interleave]
    exact ⟨interleave_getLsbD_three_mul b hi, (pack_isSpread .y b).getLsbD_lane (lane_lt .y) i,
      (pack_isSpread .z b).getLsbD_lane (lane_lt .z) i⟩

end Sys2Proof.Machine
end

section
/-! Words held in groups: the layout that the levels of the interleaver (R102, R103) and the steps of the cascade (R143)
keep. -/
namespace Sys2Proof

/-- `w` holds the values of `f` in groups of `g` bits, one group at every `3g`-th place; every other bit is 0. -/
def InGroups {n : Nat} (g : Nat) (f : Nat → Bool) (w : BitVec n) : Prop :=
  ∀ p < n, w.getLsbD p = (decide (p % (3 * g) < g) && f (g * (p / (3 * g)) + p % (3 * g)))

theorem InGroups.eq {n g : Nat} {f : Nat → Bool} {w w' : BitVec n} (h : InGroups g f w) (h' : InGroups g f w') : w = w' :=
  BitVec.eq_of_getLsbD_eq fun p hp => (h p hp).trans (h' p hp).symm

/-- The mask that keeps the groups of `g` bits. -/
def IsGroupMask {n : Nat} (g : Nat) (mask : BitVec n) : Prop :=
  ∀ p < n, mask.getLsbD p = decide (p % (3 * g) < g)

/-- With no value past the top of the word, the groups are all there is of it. -/
theorem InGroups.getLsbD {n g : Nat} {f : Nat → Bool} {w : BitVec n} (h : InGroups g f w)
    (hf : ∀ k, n ≤ 3 * k → f k = false) (p : Nat) :
    w.getLsbD p = (decide (p % (3 * g) < g) && f (g * (p / (3 * g)) + p % (3 * g))) := by
  by_cases hp : p < n
  · exact h p hp
  · have hdiv : 3 * (g * (p / (3 * g))) + p % (3 * g) = p := by
      rw [← Nat.mul_assoc, Nat.div_add_mod]
    rw [BitVec.getLsbD_of_ge _ _ (not_lt.1 hp), hf _ (by omega), Bool.and_false]

/-- The place of `p` among the groups of `g` bits, once `p` is written out. -/
theorem group_place {p g q u : Nat} (h : u + 3 * g * q = p) (hu : u < 3 * g) : p / (3 * g) = q ∧ p % (3 * g) = u :=
  (Nat.div_mod_unique (by omega)).2 ⟨h, hu⟩

/-- Spreading halves the groups: OR with the word shifted left by `2g`, cut to groups of `g` (R101). -/
theorem InGroups.spreadLevel {g : Nat} {f : Nat → Bool} {w mask : WorkWord} (hmask : IsGroupMask g mask)
    (h : InGroups (2 * g) f w) : InGroups g f (Machine.spreadLevel (2 * g) mask w) := by
  intro p hp
  rw [Machine.spreadLevel, BitVec.getLsbD_and, BitVec.getLsbD_or, BitVec.getLsbD_shiftLeft, hmask p hp, h p hp,
    decide_eq_true hp, Bool.true_and]
  by_cases hgroup : p % (3 * g) < g
  · obtain ⟨q, hq⟩ := Nat.even_or_odd' (p / (3 * g))
    have hdiv : p % (3 * g) + 3 * g * (p / (3 * g)) = p := Nat.mod_add_div ..
    generalize p % (3 * g) = t at *
    rcases hq with hq | hq <;> rw [hq] at hdiv ⊢
    · -- an even group stays where it is
      obtain ⟨hd, hm⟩ : p / (3 * (2 * g)) = q ∧ p % (3 * (2 * g)) = t := group_place (by rw [← hdiv]; ring) (by omega)
      have hshift : (!decide (p < 2 * g) && w.getLsbD (p - 2 * g)) = false := by
        cases q with
        | zero => simp [show p < 2 * g by omega]
        | succ r =>
          have hsub : 4 * g + t + 3 * (2 * g) * r = p - 2 * g := by
            rw [← hdiv]
            exact (Nat.sub_eq_of_eq_add (by ring)).symm
          obtain ⟨-, hm'⟩ := group_place hsub (by omega)
          simp [h _ (show p - 2 * g < 32 by omega), hm', show ¬ 4 * g + t < 2 * g by omega]
      have hplace : 2 * g * q + t = g * (2 * q) + t := by ring
      simp [hshift, hd, hm, hplace, hgroup, show t < 2 * g by omega]
    · -- an odd group comes from `2g` places below
      obtain ⟨-, hm⟩ : p / (3 * (2 * g)) = q ∧ p % (3 * (2 * g)) = 3 * g + t :=
        group_place (by rw [← hdiv]; ring) (by omega)
      have hsub : g + t + 3 * (2 * g) * q = p - 2 * g := by
        rw [← hdiv]
        exact (Nat.sub_eq_of_eq_add (by ring)).symm
      obtain ⟨hd', hm'⟩ := group_place hsub (by omega)
      have hplace : 2 * g * q + (g + t) = g * (2 * q + 1) + t := by ring
      have hge : ¬ p < 2 * g := by
        rw [← hdiv, Nat.mul_add]
        omega
      simp [h _ (show p - 2 * g < 32 by omega), hm, hd', hm', hplace, hgroup, hge, show ¬ 3 * g + t < 2 * g by omega,
        show g + t < 2 * g by omega]
  · simp [hgroup]

/-- Gathering joins groups by twos: OR with the word shifted right by `2g`, cut to groups of `2g` (R142). -/
theorem InGroups.gatherStep {g : Nat} {f : Nat → Bool} {s mask : Code} (hf : ∀ k, 64 ≤ 3 * k → f k = false)
    (hmask : IsGroupMask (2 * g) mask) (h : InGroups g f s) : InGroups (2 * g) f (Machine.gatherStep (2 * g) mask s) := by
  intro p hp
  have hs := h.getLsbD hf
  rw [Machine.gatherStep, BitVec.getLsbD_and, BitVec.getLsbD_or, BitVec.getLsbD_ushiftRight, hmask p hp, hs, hs]
  by_cases hgroup : p % (3 * (2 * g)) < 2 * g
  · have hdiv : p % (3 * (2 * g)) + 3 * (2 * g) * (p / (3 * (2 * g))) = p := Nat.mod_add_div ..
    generalize p % (3 * (2 * g)) = u, p / (3 * (2 * g)) = q at *
    by_cases hlow : u < g
    · -- the low half of the group is in place
      obtain ⟨hd, hm⟩ : p / (3 * g) = 2 * q ∧ p % (3 * g) = u := group_place (by rw [← hdiv]; ring) (by omega)
      obtain ⟨-, hm'⟩ : (2 * g + p) / (3 * g) = 2 * q ∧ (2 * g + p) % (3 * g) = 2 * g + u :=
        group_place (by rw [← hdiv]; ring) (by omega)
      have hplace : g * (2 * q) + u = 2 * g * q + u := by ring
      simp [hd, hm, hm', hlow, hgroup, hplace, show ¬ 2 * g + u < g by omega]
    · -- the high half comes from `2g` places above
      obtain ⟨v, rfl⟩ := Nat.exists_eq_add_of_le (not_lt.1 hlow)
      obtain ⟨-, hm⟩ : p / (3 * g) = 2 * q ∧ p % (3 * g) = g + v := group_place (by rw [← hdiv]; ring) (by omega)
      obtain ⟨hd', hm'⟩ : (2 * g + p) / (3 * g) = 2 * q + 1 ∧ (2 * g + p) % (3 * g) = v :=
        group_place (by rw [← hdiv]; ring) (by omega)
      have hplace : g * (2 * q + 1) + v = 2 * g * q + (g + v) := by ring
      simp [hm, hd', hm', hgroup, hplace, show v < g by omega]
  · simp [hgroup]

end Sys2Proof
end

section
/-! The layout of the interleaver's levels and of the cascade's steps (40_byte_interleaver.md R102 to R105; 42_decoder.md
R143). -/
namespace Sys2Proof.Machine

theorem isGroupMask_im4 : IsGroupMask 8 im4 := by unfold IsGroupMask; decide
theorem isGroupMask_im3 : IsGroupMask 4 im3 := by unfold IsGroupMask; decide
theorem isGroupMask_im2 : IsGroupMask 2 im2 := by unfold IsGroupMask; decide
theorem isGroupMask_im1 : IsGroupMask 1 im1 := by unfold IsGroupMask; decide

/-- The widened byte is one group, at the bottom of the word: of sixteen bits, or of its eight alone. -/
theorem widenByte_inGroups (b : Byte) : InGroups 16 b.getLsbD (widenByte b) ∧ InGroups 8 b.getLsbD (widenByte b) := by
  constructor <;> intro p hp <;> rw [widenByte, BitVec.getLsbD_setWidth, decide_eq_true hp, Bool.true_and]
  · by_cases h16 : p < 16
    · simp [Nat.mod_eq_of_lt, Nat.div_eq_of_lt, h16, show p < 48 by omega]
    · rw [BitVec.getLsbD_of_ge b p (by omega), BitVec.getLsbD_of_ge b _ (by omega), Bool.and_false]
  · by_cases h24 : p < 24
    · by_cases h8 : p < 8
      · simp [Nat.mod_eq_of_lt h24, Nat.div_eq_of_lt h24, h8]
      · simp [Nat.mod_eq_of_lt h24, Nat.div_eq_of_lt h24, BitVec.getLsbD_of_ge b p (not_lt.1 h8)]
    · rw [BitVec.getLsbD_of_ge b p (by omega), BitVec.getLsbD_of_ge b _ (by omega), Bool.and_false]

theorem interleaveW1_inGroups (b : Byte) : InGroups 8 b.getLsbD (interleaveW1 b) :=
  (widenByte_inGroups b).1.spreadLevel isGroupMask_im4

theorem interleaveW2_inGroups (b : Byte) : InGroups 4 b.getLsbD (interleaveW2 b) :=
  (interleaveW1_inGroups b).spreadLevel isGroupMask_im3

theorem interleaveW3_inGroups (b : Byte) : InGroups 2 b.getLsbD (interleaveW3 b) :=
  (interleaveW2_inGroups b).spreadLevel isGroupMask_im2

theorem interleaveAlg_inGroups (b : Byte) : InGroups 1 b.getLsbD (interleaveAlg b) :=
  (interleaveW3_inGroups b).spreadLevel isGroupMask_im1

/-- The first level changes nothing: the whole byte is in its lowest group already (R102). -/
theorem interleaveW1_eq (b : Byte) : interleaveW1 b = widenByte b :=
  (interleaveW1_inGroups b).eq (widenByte_inGroups b).2

/-- Two groups of four bits hold the byte after the second level (R102). -/
theorem interleaveW2_getLsbD (b : Byte) {p : Nat} (hp : p < 32) : (interleaveW2 b).getLsbD p =
    if p < 4 then b.getLsbD p else if 12 ≤ p ∧ p < 16 then b.getLsbD (p - 8) else false := by
  rw [interleaveW2_inGroups b p hp]
  rcases show p < 12 ∨ 12 ≤ p ∧ p < 24 ∨ 24 ≤ p by omega with h | ⟨h, h'⟩ | h
  · simp [Nat.mod_eq_of_lt h, Nat.div_eq_of_lt h, not_le.2 h]
  · have hindex : 4 * (p / 12) + p % 12 = p - 8 := by omega
    have hgroup : p % 12 < 4 ↔ p < 16 := by omega
    simp [hindex, hgroup, h, show ¬ p < 4 by omega]
  · rw [BitVec.getLsbD_of_ge b _ (by omega)]
    simp [show ¬ p < 4 by omega, show ¬ p < 16 by omega]

theorem interleaveAlg_eq_setWidth_interleave (b : Byte) : interleaveAlg b = (interleave b).setWidth 32 := by
  apply BitVec.eq_of_getLsbD_eq
  intro p hp
  rw [interleaveAlg_getLsbD, BitVec.getLsbD_setWidth, decide_eq_true hp, Bool.true_and, interleave_isSpread b p]

theorem interleaveAlg_toNat (b : Byte) : (interleaveAlg b).toNat = (interleave b).toNat := by
  rw [interleaveAlg_eq_setWidth_interleave, BitVec.toNat_setWidth_of_le (by decide)]

/-- The algorithm leaves bits 31:22 of its word 0 (R105). -/
theorem interleaveAlg_and_eq_zero (b : Byte) {m : WorkWord} (hm : 0x249249#32 &&& m = 0) : interleaveAlg b &&& m = 0 := by
  rw [interleaveAlg_eq_setWidth_interleave, ← interleave_and_ones, BitVec.setWidth_and, BitVec.and_assoc]
  exact (congrArg _ hm).trans BitVec.and_zero

/-- Settles O24: each level halves the groups of the byte's bits. -/
theorem levelsSpreadTheByte : Obligations.LevelsSpreadTheByte := by
  refine ⟨by decide, fun b => ⟨interleaveW1_eq b, fun p hp => ⟨interleaveW2_getLsbD b hp, ?_, ?_⟩⟩, by decide, by decide,
    by decide, by decide, by decide, fun b => ⟨interleaveAlg_toNat b, interleaveAlg_and_eq_zero b (by decide), ?_, ?_⟩⟩
  · rw [interleaveW3_inGroups b p hp]
    simp
  · rw [interleaveAlg_getLsbD]
    simp
  · rw [ilv_eq_interleave, interleaveAlg_toNat]
  · rw [ilv_eq_interleave]
    exact interleave_and_eq_zero b (by decide)

theorem isGroupMask_dm0 : IsGroupMask 1 dm0 := by unfold IsGroupMask; decide
theorem isGroupMask_dm1 : IsGroupMask 2 dm1 := by unfold IsGroupMask; decide
theorem isGroupMask_dm2 : IsGroupMask 4 dm2 := by unfold IsGroupMask; decide
theorem isGroupMask_dm3 : IsGroupMask 8 dm3 := by unfold IsGroupMask; decide
theorem isGroupMask_dm4 : IsGroupMask 16 dm4 := by unfold IsGroupMask; decide
theorem isGroupMask_dm5 : IsGroupMask 32 dm5 := by unfold IsGroupMask; decide

/-- Bit `k` of the wanted axis, as the lane shift leaves it: at the multiples of 3 (R141). -/
def axisBit (a : Axis) (c : Code) (k : Nat) : Bool := (cascadeS0 a c).getLsbD (3 * k)

theorem axisBit_of_ge (a : Axis) (c : Code) (k : Nat) (hk : 64 ≤ 3 * k) : axisBit a c k = false :=
  BitVec.getLsbD_of_ge _ _ hk

theorem cascadeS1_inGroups (a : Axis) (c : Code) : InGroups 1 (axisBit a c) (cascadeS1 a c) := by
  intro p hp
  rw [cascadeS1, BitVec.getLsbD_and, isGroupMask_dm0 p hp, axisBit]
  by_cases h : p % 3 = 0
  · simp [h, show 3 * (p / 3) = p by omega]
  · simp [h]

theorem cascadeS2_inGroups (a : Axis) (c : Code) : InGroups 2 (axisBit a c) (cascadeS2 a c) :=
  (cascadeS1_inGroups a c).gatherStep (g := 1) (axisBit_of_ge a c) isGroupMask_dm1

theorem cascadeS3_inGroups (a : Axis) (c : Code) : InGroups 4 (axisBit a c) (cascadeS3 a c) :=
  (cascadeS2_inGroups a c).gatherStep (g := 2) (axisBit_of_ge a c) isGroupMask_dm2

theorem cascadeS4_inGroups (a : Axis) (c : Code) : InGroups 8 (axisBit a c) (cascadeS4 a c) :=
  (cascadeS3_inGroups a c).gatherStep (g := 4) (axisBit_of_ge a c) isGroupMask_dm3

theorem cascadeS5_inGroups (a : Axis) (c : Code) : InGroups 16 (axisBit a c) (cascadeS5 a c) :=
  (cascadeS4_inGroups a c).gatherStep (g := 8) (axisBit_of_ge a c) isGroupMask_dm4

theorem cascadeS6_inGroups (a : Axis) (c : Code) : InGroups 32 (axisBit a c) (cascadeS6 a c) :=
  (cascadeS5_inGroups a c).gatherStep (g := 16) (axisBit_of_ge a c) isGroupMask_dm5

/-- Two groups of sixteen are left after the fifth step, the second at the top of the word (R143). -/
theorem cascadeS5_getLsbD (a : Axis) (c : Code) {p : Nat} (hp : p < 64) : (cascadeS5 a c).getLsbD p =
    if p < 16 then axisBit a c p else if 48 ≤ p then axisBit a c (p - 32) else false := by
  rw [cascadeS5_inGroups a c p hp]
  rcases show p < 48 ∨ 48 ≤ p by omega with h | h
  · simp [Nat.mod_eq_of_lt h, Nat.div_eq_of_lt h, not_le.2 h]
  · simp [h, show p % 48 < 16 by omega, show 16 * (p / 48) + p % 48 = p - 32 by omega, show ¬ p < 16 by omega]

/-- One group of 32 is left after the last step (R143). -/
theorem cascadeS6_getLsbD (a : Axis) (c : Code) {p : Nat} (hp : p < 64) : (cascadeS6 a c).getLsbD p =
    if p < 32 then axisBit a c p else false := by
  rw [cascadeS6_inGroups a c p hp]
  simp [Nat.mod_eq_of_lt (show p < 96 by omega), Nat.div_eq_of_lt (show p < 96 by omega)]

/-- Settles O41: each step joins the groups of the axis's bits by twos. -/
theorem cascadeGathersTheAxis : Obligations.CascadeGathersTheAxis := by
  refine ⟨by decide, fun a c p hp => ⟨?_, ?_, ?_, ?_, cascadeS5_getLsbD a c hp, cascadeS6_getLsbD a c hp⟩, by decide⟩
  · rw [cascadeS1_inGroups a c p hp]
    by_cases h : p % 3 = 0 <;> simp [h, axisBit]
  · rw [cascadeS2_inGroups a c p hp]
    simp [axisBit]
  · rw [cascadeS3_inGroups a c p hp]
    simp [axisBit]
  · rw [cascadeS4_inGroups a c p hp]
    simp [axisBit]

end Sys2Proof.Machine
end

section
/-! The laws of the encoder (41_encoder.md R123 to R129; 30_encoding.md R74). -/
namespace Sys2Proof.Machine

theorem widenWord_getLsbD (t : TableWord) (j : Nat) : (widenWord t).getLsbD j = t.getLsbD j := by
  rw [widenWord, BitVec.getLsbD_setWidth]
  by_cases hj : j < 64
  · rw [decide_eq_true hj, Bool.true_and]
  · rw [BitVec.getLsbD_of_ge t j (by omega), Bool.and_false]

/-- A widened word placed at bit `n` (R122). -/
theorem placed_getLsbD (t : TableWord) (n p : Nat) : (widenWord t <<< n).getLsbD p =
    (decide (p < 64) && decide (n ≤ p) && t.getLsbD (p - n)) := by
  rw [BitVec.getLsbD_shiftLeft, widenWord_getLsbD, ← decide_not]
  simp only [not_lt]

/-- Two words placed at least 24 bits apart do not meet (R123). -/
theorem placed_and_eq_zero (t u : TableWord) {n m : Nat} (h : n + 24 ≤ m) :
    (widenWord t <<< n) &&& (widenWord u <<< m) = 0 := by
  apply BitVec.eq_of_getLsbD_eq
  intro p _
  rw [BitVec.getLsbD_and, placed_getLsbD, placed_getLsbD]
  by_cases hp : m ≤ p
  · simp [BitVec.getLsbD_of_ge t (p - n) (by omega)]
  · simp [hp]

/-- Of the high word only the low 16 bits stay within the code (R123). -/
theorem placed_high_eq_masked (v : TableWord) : widenWord v <<< 48 = widenWord (v &&& 0x00FFFF#24) <<< 48 := by
  have hmask : ∀ j < 16, (0x00FFFF#24).getLsbD j = true := by decide
  apply BitVec.eq_of_getLsbD_eq
  intro p hp
  rw [placed_getLsbD, placed_getLsbD, BitVec.getLsbD_and, hmask (p - 48) (by omega), Bool.and_true]

/-- The discarded bits of the high word are the index bits that its lane would place at bit 16 or above (R123). -/
theorem pack_discarded_getLsbD (a : Axis) (b : Byte) {i : Nat} (hi : i < 8) (h : 16 ≤ 3 * i + lane a) :
    (pack a b &&& 0xFF0000#24).getLsbD (3 * i + lane a) = b.getLsbD i := by
  have hmask : ∀ j < 24, 16 ≤ j → (0xFF0000#24).getLsbD j = true := by decide
  have hlane := lane_lt a
  rw [BitVec.getLsbD_and, (pack_isSpread a b).getLsbD_lane hlane, hmask _ (by omega) h, Bool.and_true]

/-- Settles O31: each word is 24 bits wide and stands 24 bits above the one before. -/
theorem placedWordsNeverCollide : Obligations.PlacedWordsNeverCollide := by
  intro t u v
  refine ⟨fun p hp => ?_, fun p hp => ?_, fun p hp => ?_, fun j hj => ⟨widenWord_getLsbD t j, ?_⟩, fun j hj => ?_,
    placed_high_eq_masked v, fun a b i hi h => pack_discarded_getLsbD a b hi h, ?_, ?_,
    placed_and_eq_zero u v (by decide)⟩
  · rw [widenWord_getLsbD, BitVec.getLsbD_of_ge t p hp]
  · rw [placed_getLsbD]
    rcases hp with hp | hp
    · simp [hp]
    · simp [BitVec.getLsbD_of_ge u (p - 24) (by omega)]
  · simp [hp]
  · rw [placed_getLsbD]
    simp [show 24 + j < 64 by omega]
  · rw [placed_getLsbD]
    simp [show 48 + j < 64 by omega]
  · have h := placed_and_eq_zero t u (show 0 + 24 ≤ 24 by decide)
    rwa [BitVec.shiftLeft_zero] at h
  · have h := placed_and_eq_zero t v (show 0 + 24 ≤ 48 by decide)
    rwa [BitVec.shiftLeft_zero] at h

/-- The sum over every place is the sum over the places of one lane, when the others add nothing. -/
theorem sum_range_three_mul {l : Nat} (hl : l < 3) {F : Nat → Nat} (hF : ∀ p, p % 3 ≠ l → F p = 0) (n : Nat) :
    ∑ p ∈ Finset.range (3 * n), F p = ∑ k ∈ Finset.range n, F (3 * k + l) := by
  induction n with
  | zero => rfl
  | succ n ih =>
    rw [show 3 * (n + 1) = 3 * n + 1 + 1 + 1 by omega]
    simp only [Finset.sum_range_succ, ih]
    interval_cases l
    · rw [hF (3 * n + 1) (by omega), hF (3 * n + 1 + 1) (by omega)]; rfl
    · rw [hF (3 * n) (by omega), hF (3 * n + 1 + 1) (by omega)]; rfl
    · rw [hF (3 * n) (by omega), hF (3 * n + 1) (by omega)]; rfl

/-- A contribution is the sum of its component's bits at their places in the code (R125). -/
theorem encodeAxis_toNat (a : Axis) (v : Component) : (encodeAxis a v).toNat = ∑ k ∈ Finset.range 24,
    if 3 * k + lane a ≤ 63 then (v.getLsbD k).toNat * 2 ^ (3 * k + lane a) else 0 := by
  have hlane := lane_lt a
  calc (encodeAxis a v).toNat
    _ = ∑ p ∈ Finset.range 64, ((encodeAxis a v).getLsbD p).toNat * 2 ^ p := toNat_eq_sum _
    _ = ∑ p ∈ Finset.range (3 * 24), ((encodeAxis a v).getLsbD p).toNat * 2 ^ p := by
      refine Finset.sum_subset (Finset.range_subset_range.2 (by decide)) fun p _ hp => ?_
      rw [BitVec.getLsbD_of_ge _ _ (not_lt.1 (Finset.mem_range.not.1 hp)), Bool.toNat_false, Nat.zero_mul]
    _ = ∑ k ∈ Finset.range 24, ((encodeAxis a v).getLsbD (3 * k + lane a)).toNat * 2 ^ (3 * k + lane a) := by
      refine sum_range_three_mul hlane (fun p hp => ?_) 24
      simp [encodeAxis_getLsbD, hp]
    _ = _ := by
      refine Finset.sum_congr rfl fun k _ => ?_
      rw [encodeAxis_getLsbD, show (3 * k + lane a) / 3 = k by omega, decide_eq_true (p := _ % 3 = _) (by omega)]
      by_cases hk : 3 * k + lane a ≤ 63
      · simp [hk, show 3 * k + lane a < 64 by omega]
      · simp [hk, show ¬ 3 * k + lane a < 64 by omega]

theorem lane_pos {a : Axis} (h : a ≠ .x) : 0 < lane a := by
  cases a
  · exact absurd rfl h
  · decide
  · decide

/-- Settles O32: the bits of a contribution, read at each place and summed. -/
theorem encodeAxisClosedForm : Obligations.EncodeAxisClosedForm := by
  intro a v
  have hlane := lane_lt a
  refine ⟨fun p hp => ?_, fun p hp hmod => ?_, encodeAxis_toNat a v⟩
  · rw [encodeAxis_getLsbD, decide_eq_true hp, Bool.true_and]
    by_cases hmod : p % 3 = lane a
    · simp [hmod, show (p - lane a) / 3 = p / 3 by omega]
    · simp [hmod]
  · split
    · omega
    · have hpos := lane_pos ‹_›
      omega

/-- A contribution is the kept bits of its component, spread over the lane of its axis (R125, R126). -/
theorem encodeAxis_isSpread (a : Axis) (v : Component) : IsSpread (lane a) (v &&& keep a) (encodeAxis a v) := by
  intro p
  rw [encodeAxis_getLsbD, BitVec.getLsbD_and, keep_getLsbD]
  by_cases hmod : p % 3 = lane a
  · simp [hmod, show 3 * (p / 3) + lane a = p by omega, Bool.and_comm]
  · simp [hmod]

theorem encodeAxis_or (a : Axis) (v w : Component) : encodeAxis a (v ||| w) = encodeAxis a v ||| encodeAxis a w := by
  apply BitVec.eq_of_getLsbD_eq
  intro p _
  simp only [encodeAxis_getLsbD, BitVec.getLsbD_or, Bool.and_or_distrib_left]

/-- Contributions of different axes share no code bit (R127). -/
theorem encodeAxis_and_eq_zero {a a' : Axis} (h : a ≠ a') (v w : Component) : encodeAxis a v &&& encodeAxis a' w = 0 :=
  (encodeAxis_isSpread a v).and_eq_zero (encodeAxis_isSpread a' w) (lane_ne h)

/-- A contribution stays within its lane (R127). -/
theorem encodeAxis_and_lanepos (a : Axis) (v : Component) : encodeAxis a v &&& lanepos a = encodeAxis a v := by
  apply BitVec.eq_of_getLsbD_eq
  intro p hp
  rw [BitVec.getLsbD_and, encodeAxis_getLsbD, lanepos_getLsbD, Bool.and_right_comm, Bool.and_self]

theorem encodeAxis_and_lanepos_of_ne {a a' : Axis} (h : a ≠ a') (v : Component) : encodeAxis a v &&& lanepos a' = 0 := by
  rw [← encodeAxis_ones a']
  exact encodeAxis_and_eq_zero h v _

/-- The kept bits of an axis are the low 22 or 21 (R74), so a component below that range is kept whole. -/
theorem and_keep_eq_self_of_lt {a : Axis} {v : Component} (h : v.toNat < if a = .x then 2 ^ 22 else 2 ^ 21) :
    v &&& keep a = v := by
  apply BitVec.eq_of_getLsbD_eq
  intro k _
  rw [BitVec.getLsbD_and, keep_getLsbD]
  by_cases hk : 3 * k + lane a < 64
  · rw [decide_eq_true hk, Bool.and_true]
  · have hzero : v.getLsbD k = false := by
      cases a
      · exact getLsbD_of_lt v h (by simp only [lane] at hk; omega)
      · exact getLsbD_of_lt v h (by simp only [lane] at hk; omega)
      · exact getLsbD_of_lt v h (by simp only [lane] at hk; omega)
    rw [hzero, Bool.false_and]

/-- On the kept range of an axis a component and its contribution are one spread of the other (R127). -/
theorem encodeAxis_isSpread_of_lt {a : Axis} {v : Component} (h : v.toNat < if a = .x then 2 ^ 22 else 2 ^ 21) :
    IsSpread (lane a) v (encodeAxis a v) := by
  have hs := encodeAxis_isSpread a v
  rwa [and_keep_eq_self_of_lt h] at hs

/-- The contribution of any axis is that of X, of the bits the axis keeps, shifted to its lane (R127). -/
theorem encodeAxis_eq_shiftLeft (a : Axis) (v : Component) : encodeAxis a v = encodeAxis .x (v &&& keep a) <<< lane a := by
  have hx : lane .x = 0 := rfl
  have hlane := lane_lt a
  apply BitVec.eq_of_getLsbD_eq
  intro p hp
  rw [BitVec.getLsbD_shiftLeft, encodeAxis_isSpread a v p, encodeAxis_getLsbD .x]
  by_cases hmod : p % 3 = lane a
  · have hdiv : (p - lane a) / 3 = p / 3 := by omega
    have hzero : (p - lane a) % 3 = 0 := by omega
    simp [hmod, hp, hx, hdiv, hzero, show ¬ p < lane a by omega, show p - lane a < 64 by omega]
  · by_cases hlt : p < lane a
    · simp [hmod, hlt]
    · simp [hmod, hx, show (p - lane a) % 3 ≠ 0 by omega]

/-- Settles O34: a contribution is its component's kept bits spread over one lane. -/
theorem encodeAxisLaws : Obligations.EncodeAxisLaws := by
  refine ⟨fun a v => ⟨(encodeAxis_and_keep a v).symm, ?_⟩, encodeAxis_or, fun a a' v w h => encodeAxis_and_eq_zero h v w,
    fun a v w hv hw => ⟨fun h => ?_, ?_⟩, fun v => ⟨encodeAxis_eq_shiftLeft .y v, encodeAxis_eq_shiftLeft .z v⟩⟩
  · rw [← encodeAxis_and_lanepos, BitVec.and_assoc, BitVec.and_not_self]
    exact BitVec.and_zero
  · have hsame := encodeAxis_isSpread_of_lt hw
    rw [← h] at hsame
    exact (encodeAxis_isSpread_of_lt hv).inj hsame (lane_lt a)
  · exact (encodeAxis_isSpread_of_lt hv).lt_iff (encodeAxis_isSpread_of_lt hw) (lane_lt a)

/-- The component bits with a place in the code: 0 to 20 on every axis, and 21 on X (R126). -/
theorem placed_bit_iff (a : Axis) (k : Nat) : (k ≤ 20 ∨ (k = 21 ∧ a = .x)) ↔ 3 * k + lane a < 64 := by
  by_cases h : a = .x
  · subst h
    simp only [lane, and_true]
    omega
  · have hpos := lane_pos h
    have hlane := lane_lt a
    simp only [h, and_false, or_false]
    omega

/-- One component bit with a place in the code contributes that code bit (R126). -/
theorem encodeAxis_bit {a : Axis} {k : Nat} (h : 3 * k + lane a < 64) :
    encodeAxis a (1#32 <<< k) = 1#64 <<< (3 * k + lane a) := by
  have hlane := lane_lt a
  apply BitVec.eq_of_getLsbD_eq
  intro p hp
  rw [← BitVec.twoPow_eq, ← BitVec.twoPow_eq, encodeAxis_getLsbD, BitVec.getLsbD_twoPow, BitVec.getLsbD_twoPow,
    decide_eq_true hp, decide_eq_true h, decide_eq_true (show k < 32 by omega), Bool.true_and, Bool.true_and, Bool.true_and,
    ← Bool.decide_and]
  exact decide_eq_decide.2 (by omega)

/-- One component bit with no place in the code contributes nothing (R126). -/
theorem encodeAxis_bit_eq_zero {a : Axis} {k : Nat} (h : ¬ 3 * k + lane a < 64) : encodeAxis a (1#32 <<< k) = 0 := by
  apply encodeAxis_eq_zero
  apply BitVec.eq_of_getLsbD_eq
  intro j _
  rw [← BitVec.twoPow_eq, BitVec.getLsbD_and, BitVec.getLsbD_twoPow, keep_getLsbD]
  by_cases hj : k = j
  · simp [← hj, h]
  · simp [hj]

/-- The bytes of a component are bytes of its low 24 bits (R121). -/
theorem extract_and_low (v : Component) {n : Nat} (hn : n ≤ 16) :
    v.extractLsb' n 8 = (v &&& 0x00FFFFFF).extractLsb' n 8 := by
  have hmask : ∀ j < 24, (0x00FFFFFF : Component).getLsbD j = true := by decide
  apply BitVec.eq_of_getLsbD_eq
  intro i hi
  rw [BitVec.getLsbD_extractLsb', BitVec.getLsbD_extractLsb', BitVec.getLsbD_and, hmask (n + i) (by omega), Bool.and_true]

/-- Settles O33: each bit by its place in the code, and the bytes by the bits they are cut from. -/
theorem fateOfEveryComponentBit : Obligations.FateOfEveryComponentBit := by
  refine ⟨fun a k hk => ?_, fun a v => (encodeAxis_and_keep a v).symm, fun a v w h => ?_, rfl, rfl, rfl, by decide,
    by decide⟩
  · simp only [placed_bit_iff]
    split
    · exact encodeAxis_bit ‹_›
    · exact encodeAxis_bit_eq_zero ‹_›
  · have hbyte : ∀ n ≤ 16, v.extractLsb' n 8 = w.extractLsb' n 8 := fun n hn => by
      rw [extract_and_low v hn, extract_and_low w hn, h]
    have hlow : lowByte v = lowByte w := hbyte 0 (by decide)
    have hmiddle : middleByte v = middleByte w := hbyte 8 (by decide)
    have hhigh : highByte v = highByte w := hbyte 16 (by decide)
    exact ⟨hlow, hmiddle, hhigh, by rw [encodeAxis, encodeAxis, hlow, hmiddle, hhigh]⟩

/-- The contributions of X and Y together share no bit with that of Z. -/
theorem encodeAxis_or_and_eq_zero (t : Triple) : (encodeAxis .x t.x ||| encodeAxis .y t.y) &&& encodeAxis .z t.z = 0 := by
  rw [BitVec.and_or_distrib_right, encodeAxis_and_eq_zero (by decide), encodeAxis_and_eq_zero (by decide)]
  rfl

theorem mortonEncode_eq_add (t : Triple) : mortonEncode t = encodeAxis .x t.x + encodeAxis .y t.y + encodeAxis .z t.z := by
  have hxy : encodeAxis .x t.x &&& encodeAxis .y t.y = 0 := encodeAxis_and_eq_zero (by decide) _ _
  rw [BitVec.add_eq_or_of_and_eq_zero _ _ hxy, BitVec.add_eq_or_of_and_eq_zero _ _ (encodeAxis_or_and_eq_zero t)]
  rfl

theorem mortonEncode_toNat (t : Triple) :
    (mortonEncode t).toNat = (encodeAxis .x t.x).toNat + (encodeAxis .y t.y).toNat + (encodeAxis .z t.z).toNat := by
  have hxy : encodeAxis .x t.x &&& encodeAxis .y t.y = 0 := encodeAxis_and_eq_zero (by decide) _ _
  have hz := encodeAxis_or_and_eq_zero t
  rw [← BitVec.add_eq_or_of_and_eq_zero _ _ hxy] at hz
  rw [mortonEncode_eq_add, BitVec.toNat_add_of_and_eq_zero hz, BitVec.toNat_add_of_and_eq_zero hxy]

/-- Masking a code with the lane of an axis leaves the contribution of that axis (R129). -/
theorem mortonEncode_and_lanepos (t : Triple) : mortonEncode t &&& lanepos .x = encodeAxis .x t.x ∧
    mortonEncode t &&& lanepos .y = encodeAxis .y t.y ∧ mortonEncode t &&& lanepos .z = encodeAxis .z t.z := by
  simp [mortonEncode, BitVec.and_or_distrib_right, encodeAxis_and_lanepos, encodeAxis_and_lanepos_of_ne]

theorem or_eq_xor_of_and_eq_zero {c e : Code} (h : c &&& e = 0) : c ||| e = c ^^^ e := by
  apply BitVec.eq_of_getLsbD_eq
  intro p _
  have hbit : (c.getLsbD p && e.getLsbD p) = false := by
    rw [← BitVec.getLsbD_and, h]
    exact BitVec.getLsbD_zero
  rw [BitVec.getLsbD_or, BitVec.getLsbD_xor]
  revert hbit
  generalize c.getLsbD p = b, e.getLsbD p = b'
  revert b b'
  decide

/-- Settles O36: OR, sum and exclusive OR are the same where no bit is shared. -/
theorem contributionsAreDisjoint : Obligations.ContributionsAreDisjoint := by
  intro t
  refine ⟨mortonEncode_eq_add t, mortonEncode_toNat t, ?_, mortonEncode_and_lanepos t⟩
  rw [mortonEncode, or_eq_xor_of_and_eq_zero (encodeAxis_or_and_eq_zero t),
    or_eq_xor_of_and_eq_zero (encodeAxis_and_eq_zero (by decide) _ _)]

/-- Settles O38, from the bits of the lanes; the values are those listed. -/
theorem lanesPartitionTheCode : Obligations.LanesPartitionTheCode := by
  refine ⟨fun a p hp => ?_, by decide, by decide, by decide, by decide, rfl, rfl, rfl, rfl, rfl, rfl, rfl⟩
  rw [lanepos_getLsbD, decide_eq_true hp, Bool.true_and]

end Sys2Proof.Machine
end

section
/-! The laws of the decoder (42_decoder.md R147 to R152; 30_encoding.md R73). -/
namespace Sys2Proof.Machine

/-- The component bits beyond the code are 0 (R147, R148). -/
theorem decodeAxis_getLsbD_eq_ite (a : Axis) (c : Code) (k : Nat) :
    (decodeAxis a c).getLsbD k = if 3 * k + lane a ≤ 63 then c.getLsbD (3 * k + lane a) else false := by
  rw [decodeAxis_getLsbD]
  split
  · rfl
  · exact BitVec.getLsbD_of_ge _ _ (by omega)

theorem decodeAxis_getLsbD_of_ge (a : Axis) (c : Code) {k : Nat} (hk : 64 ≤ 3 * k + lane a) :
    (decodeAxis a c).getLsbD k = false := by
  rw [decodeAxis_getLsbD, BitVec.getLsbD_of_ge _ _ hk]

/-- A decoded component has kept bits only (R148). -/
theorem decodeAxis_and_keep (a : Axis) (c : Code) : decodeAxis a c &&& keep a = decodeAxis a c := by
  apply BitVec.eq_of_getLsbD_eq
  intro k _
  rw [BitVec.getLsbD_and, keep_getLsbD]
  by_cases hk : 3 * k + lane a < 64
  · rw [decide_eq_true hk, Bool.and_true]
  · rw [decodeAxis_getLsbD_of_ge a c (not_lt.1 hk), Bool.false_and]

/-- Settles O43: a component bit is the code bit at its place, and there is none above the kept bits. -/
theorem decodeAxisClosedForm : Obligations.DecodeAxisClosedForm := by
  refine ⟨fun c s => ⟨decodeAxis .x c, decodeAxis .y c, decodeAxis .z c, exec_eq_answer (.decodeAxisX c) s,
    exec_eq_answer (.decodeAxisY c) s, exec_eq_answer (.decodeAxisZ c) s, fun k _ => ⟨decodeAxis_getLsbD_eq_ite .x c k,
      decodeAxis_getLsbD_eq_ite .y c k, decodeAxis_getLsbD_eq_ite .z c k⟩⟩, fun a k _ => ?_, fun a c => ⟨fun k hk => ?_,
    fun ha => ?_, ?_⟩⟩
  · rw [← Nat.lt_add_one_iff, ← placed_bit_iff]
    by_cases ha : a = .x
    · simp only [ha, and_true, if_true]
      omega
    · simp only [ha, and_false, or_false, if_false]
  · exact decodeAxis_getLsbD_of_ge a c (by omega)
  · have hpos := lane_pos ha
    exact decodeAxis_getLsbD_of_ge a c (by omega)
  · rw [← decodeAxis_and_keep]
    exact Nat.and_le_right

/-- Code bit 63 stands in the lane of X, so no other axis sees it change (R149). -/
theorem decodeAxis_xor_top {a : Axis} (h : a ≠ .x) (c : Code) :
    decodeAxis a (c ^^^ 0x8000000000000000) = decodeAxis a c := by
  have htop : ∀ p < 64, p ≠ 63 → (0x8000000000000000 : Code).getLsbD p = false := by decide
  have hpos := lane_pos h
  have hlane := lane_lt a
  apply BitVec.eq_of_getLsbD_eq
  intro k _
  rw [decodeAxis_getLsbD_eq_ite, decodeAxis_getLsbD_eq_ite, BitVec.getLsbD_xor]
  split
  · rw [htop _ (by omega) (by omega), Bool.xor_false]
  · rfl

/-- Settles O44: bit 63 is a multiple of 3, and the other axes read none. -/
theorem topCodeBitIsSeenByXOnly : Obligations.TopCodeBitIsSeenByXOnly :=
  fun c => ⟨decodeAxis_getLsbD .x c 21, fun _ ha => decodeAxis_xor_top ha c, cascadeS0_getLsbD .y c 62,
    cascadeS0_getLsbD .z c 61, by decide, by decide, by decide, by decide⟩

/-- Encoding what an axis reads restores its lane of the code (R152). -/
theorem encodeAxis_decodeAxis (a : Axis) (c : Code) : encodeAxis a (decodeAxis a c) = c &&& lanepos a := by
  apply BitVec.eq_of_getLsbD_eq
  intro p hp
  rw [encodeAxis_getLsbD, decodeAxis_getLsbD, BitVec.getLsbD_and, lanepos_getLsbD]
  by_cases hmod : p % 3 = lane a
  · rw [show 3 * (p / 3) + lane a = p by omega, Bool.and_comm]
  · simp [hmod]

/-- Any axis reads what X reads in the code shifted by the lane offset (R152). -/
theorem decodeAxis_eq_ushiftRight (a : Axis) (c : Code) : decodeAxis a c = decodeAxis .x (c >>> lane a) := by
  apply BitVec.eq_of_getLsbD_eq
  intro k _
  rw [decodeAxis_getLsbD, decodeAxis_getLsbD, BitVec.getLsbD_ushiftRight, Nat.add_comm]
  rfl

/-- Settles O45: decoding reads one lane, and encoding writes that lane back. -/
theorem decodeAxisLaws : Obligations.DecodeAxisLaws :=
  ⟨fun a c e => ⟨(decodeAxis_and_lanepos a c).symm, decodeAxis_or a c e, encodeAxis_decodeAxis a c⟩,
    decodeAxis_encodeAxis_same, fun _ _ v h => decodeAxis_encodeAxis_of_ne h v,
    fun c => ⟨decodeAxis_eq_ushiftRight .y c, decodeAxis_eq_ushiftRight .z c⟩⟩

/-- Every code bit is one bit of the decoded triple (R73). -/
theorem getLsbD_eq_mortonDecode (c : Code) (p : Nat) : c.getLsbD p =
    if p % 3 = 0 then (mortonDecode c).x.getLsbD (p / 3)
    else if p % 3 = 1 then (mortonDecode c).y.getLsbD (p / 3) else (mortonDecode c).z.getLsbD (p / 3) := by
  simp only [mortonDecode, decodeAxis_getLsbD, lane]
  split
  · congr 1; omega
  · split <;> congr 1 <;> omega

theorem mortonEncode_getLsbD_of_lt (t : Triple) {p : Nat} (hp : p < 64) : (mortonEncode t).getLsbD p =
    if p % 3 = 0 then t.x.getLsbD (p / 3) else if p % 3 = 1 then t.y.getLsbD (p / 3) else t.z.getLsbD (p / 3) := by
  rw [mortonEncode_getLsbD, decide_eq_true hp, Bool.true_and]

/-- Settles O37: the bits of the code `ENCODE` answers, and of the triple `DECODE` answers. -/
theorem eachCodeBitIsOneComponentBit : Obligations.EachCodeBitIsOneComponentBit := by
  refine ⟨fun x y z s => ⟨mortonEncode ⟨x, y, z⟩, exec_eq_answer (.encode x y z) s, fun p hp =>
      mortonEncode_getLsbD_of_lt ⟨x, y, z⟩ hp⟩,
    fun c s => ⟨mortonDecode c, exec_eq_answer (.decode c) s, fun p _ => getLsbD_eq_mortonDecode c p, fun k hk => ?_,
      fun k hk => ⟨?_, ?_⟩⟩⟩
  · exact decodeAxis_getLsbD_of_ge .x c (by rw [lane]; omega)
  · exact decodeAxis_getLsbD_of_ge .y c (by rw [lane]; omega)
  · exact decodeAxis_getLsbD_of_ge .z c (by rw [lane]; omega)

end Sys2Proof.Machine
end

section
/-! Round trips and what the encoder truncates (43_laws.md R161 to R169, R223). -/
namespace Sys2Proof.Machine

/-- X keeps one bit more than the document's 21, so the two masks agree where that bit is 0 (R161). -/
theorem and_keep_x_eq_iff (v : Component) : v &&& keep .x = v &&& 0x1FFFFF ↔ v.getLsbD 21 = false := by
  have hkeep : (keep .x).getLsbD 21 = true ∧ (0x1FFFFF : Component).getLsbD 21 = false := by decide
  have hmask : ∀ k < 32, k ≠ 21 → (keep .x).getLsbD k = (0x1FFFFF : Component).getLsbD k := by decide
  constructor
  · intro h
    have hbit := congrArg (fun q => q.getLsbD 21) h
    simpa only [BitVec.getLsbD_and, hkeep, Bool.and_true, Bool.and_false] using hbit
  · intro h
    apply BitVec.eq_of_getLsbD_eq
    intro k hk
    rw [BitVec.getLsbD_and, BitVec.getLsbD_and]
    by_cases hk21 : k = 21
    · rw [hk21, h, Bool.false_and, Bool.false_and]
    · rw [hmask k hk hk21]

/-- The code depends on the kept bits of each component only (R164). -/
theorem mortonEncode_and_keep (x y z : Component) :
    mortonEncode ⟨x &&& keep .x, y &&& keep .y, z &&& keep .z⟩ = mortonEncode ⟨x, y, z⟩ := by
  simp only [mortonEncode, encodeAxis_and_keep]

/-- Where bit 21 of X is 0, the code depends on 21 bits of each component (R161, R169). -/
theorem mortonEncode_maskEach {t : Triple} (h : t.x.getLsbD 21 = false) :
    mortonEncode (t.maskEach 0x1FFFFF) = mortonEncode t := by
  rw [Triple.maskEach, ← (and_keep_x_eq_iff t.x).2 h]
  exact mortonEncode_and_keep t.x t.y t.z

/-- Encoding a decoded code restores its three lanes, and these are all of it (R162). -/
theorem mortonEncode_mortonDecode (c : Code) : mortonEncode (mortonDecode c) = c := by
  have hcover : lanepos .x ||| lanepos .y ||| lanepos .z = BitVec.allOnes 64 := by decide
  simp only [mortonEncode, mortonDecode, encodeAxis_decodeAxis, ← BitVec.and_or_distrib_left, hcover, BitVec.and_allOnes]

/-- The triples made of kept bits (R162). -/
def InRange (t : Triple) : Prop := t.x.toNat < 2 ^ 22 ∧ t.y.toNat < 2 ^ 21 ∧ t.z.toNat < 2 ^ 21

theorem mortonDecode_mortonEncode_of_inRange {t : Triple} (h : InRange t) : mortonDecode (mortonEncode t) = t := by
  obtain ⟨hx, hy, hz⟩ := h
  rw [mortonDecode_mortonEncode, and_keep_eq_self_of_lt (a := .x) hx, and_keep_eq_self .y hy, and_keep_eq_self .z hz]

theorem mortonDecode_inRange (c : Code) : InRange (mortonDecode c) := by
  have hle : ∀ a, (decodeAxis a c).toNat ≤ (keep a).toNat := fun a => by
    rw [← decodeAxis_and_keep]
    exact Nat.and_le_right
  exact ⟨lt_of_le_of_lt (hle .x) (by decide), lt_of_le_of_lt (hle .y) (by decide), lt_of_le_of_lt (hle .z) (by decide)⟩

/-- Settles O49: each of encoding and decoding undoes the other, on all codes and on the triples of kept bits. -/
theorem everyCodeRoundTrips : Obligations.EveryCodeRoundTrips := by
  refine ⟨mortonEncode_mortonDecode, fun t p hp => mortonEncode_getLsbD_of_lt t hp, fun c => ?_,
    fun t hx hy hz => mortonDecode_mortonEncode_of_inRange ⟨hx, hy, hz⟩⟩
  refine ⟨mortonDecode c, ⟨mortonDecode_inRange c, mortonEncode_mortonDecode c⟩, ?_⟩
  rintro t ⟨ht, rfl⟩
  exact (mortonDecode_mortonEncode_of_inRange ht).symm

/-- Settles O48: the decoded code of a triple is its kept bits, which are 21 of each component and bit 21 of X. -/
theorem roundTripOnAllInputs : Obligations.RoundTripOnAllInputs := by
  refine ⟨mortonDecode_mortonEncode, fun t => ?_, fun t => ⟨fun h => ?_, ?_, ?_⟩, by decide, by decide⟩
  · rw [mortonDecode_mortonEncode, Triple.maskEach, Triple.mk.injEq, ← and_keep_x_eq_iff]
    exact ⟨fun h => h.1, fun h => ⟨h, rfl, rfl⟩⟩
  · rw [mortonDecode_mortonEncode, BitVec.getLsbD_and, h]
    rfl
  · rw [mortonDecode_mortonEncode]
    rfl
  · rw [mortonDecode_mortonEncode]
    rfl

/-- Settles O60: the wired blocks are the two compositions of encoding and decoding. -/
theorem wiredBlocksRoundTrip : Obligations.WiredBlocksRoundTrip := by
  constructor
  · rintro ⟨x, y, z⟩
    rw [encoderToDecoder, mortonDecoder, mortonEncoder, mortonDecode_mortonEncode]
    rfl
  · rintro ⟨c⟩
    rw [decoderToEncoder]
    exact congrArg EncoderOut.mk (mortonEncode_mortonDecode c)

@[simp] theorem encodeAxis_zero (a : Axis) : encodeAxis a 0#32 = 0#64 :=
  encodeAxis_eq_zero BitVec.zero_and

theorem mortonEncode_x_alone (v : Component) : mortonEncode ⟨v, 0, 0⟩ = encodeAxis .x v := by
  simp [mortonEncode]

theorem mortonEncode_y_alone (v : Component) : mortonEncode ⟨0, v, 0⟩ = encodeAxis .y v := by
  simp [mortonEncode]

theorem mortonEncode_z_alone (v : Component) : mortonEncode ⟨0, 0, v⟩ = encodeAxis .z v := by
  simp [mortonEncode]

/-- Settles O50: a code is the OR of three contributions, and the component 0 contributes 0. -/
theorem axesAreIndependent : Obligations.AxesAreIndependent := by
  refine ⟨fun x y z => ?_, encodeAxis_zero,
    fun v => ⟨mortonEncode_x_alone v, mortonEncode_y_alone v, mortonEncode_z_alone v⟩⟩
  rw [mortonEncode_x_alone, mortonEncode_y_alone, mortonEncode_z_alone, mortonEncode]

/-- Masks that leave every code as it is keep all the kept bits: the code of the kept bits alone decodes to them (R164). -/
theorem masks_contain_keep {mx my mz : Component}
    (h : ∀ x y z : Component, mortonEncode ⟨x, y, z⟩ = mortonEncode ⟨x &&& mx, y &&& my, z &&& mz⟩) :
    mx &&& keep .x = keep .x ∧ my &&& keep .y = keep .y ∧ mz &&& keep .z = keep .z := by
  have hdec := congrArg mortonDecode (h (BitVec.allOnes 32) (BitVec.allOnes 32) (BitVec.allOnes 32))
  simp only [mortonDecode_mortonEncode, BitVec.allOnes_and, Triple.mk.injEq] at hdec
  obtain ⟨hx, hy, hz⟩ := hdec
  exact ⟨hx.symm, hy.symm, hz.symm⟩

/-- Cutting X to 21 bits leaves its code as it is exactly when bit 21 is 0 (R164). -/
theorem mortonEncode_x_cut_iff (x : Component) :
    mortonEncode ⟨x, 0, 0⟩ = mortonEncode ⟨x &&& 0x1FFFFF, 0, 0⟩ ↔ x.getLsbD 21 = false := by
  have hcut : (x &&& 0x1FFFFF) &&& keep .x = x &&& 0x1FFFFF := by
    rw [BitVec.and_assoc]
    rfl
  constructor
  · intro h
    have hdec := congrArg (fun c => (mortonDecode c).x) h
    simp only [mortonDecode_mortonEncode] at hdec
    exact (and_keep_x_eq_iff x).1 (hdec.trans hcut)
  · intro h
    rw [← (and_keep_x_eq_iff x).2 h, mortonEncode_x_alone, mortonEncode_x_alone, encodeAxis_and_keep]

/-- Settles O51: the kept bits decide the code, and each of them shows in it. -/
theorem truncationKeepsExactlyTheKeptBits : Obligations.TruncationKeepsExactlyTheKeptBits := by
  refine ⟨fun x y z => (mortonEncode_and_keep x y z).symm, fun mx my mz h => masks_contain_keep h, mortonEncode_x_cut_iff,
    fun y => ?_, fun z => ?_, by decide, by decide⟩
  · rw [mortonEncode_y_alone, mortonEncode_y_alone]
    exact (encodeAxis_and_keep .y y).symm
  · rw [mortonEncode_z_alone, mortonEncode_z_alone]
    exact (encodeAxis_and_keep .z z).symm

/-- A component bit with a place in the code is a kept bit (R74). -/
theorem bit_and_keep {a : Axis} {k : Nat} (h : 3 * k + lane a < 64) : (1#32 <<< k) &&& keep a = 1#32 <<< k := by
  apply BitVec.eq_of_getLsbD_eq
  intro j _
  rw [← BitVec.twoPow_eq, BitVec.getLsbD_and, BitVec.getLsbD_twoPow, keep_getLsbD]
  by_cases hj : k = j
  · simp [← hj, h]
  · simp [hj]

/-- Settles O52: a kept bit has one place in the code, in its own lane, and any other bit none. -/
theorem lanesAreDisjoint : Obligations.LanesAreDisjoint := by
  intro a k hk
  rw [placed_bit_iff]
  refine ⟨fun h => ⟨encodeAxis_bit h, ?_, fun a' ha' => ?_⟩, fun h => ⟨encodeAxis_bit_eq_zero h, fun a' => ?_⟩⟩
  · rw [← encodeAxis_bit h, decodeAxis_encodeAxis_same, bit_and_keep h]
  · rw [← encodeAxis_bit h, decodeAxis_encodeAxis_of_ne ha']
  · rw [encodeAxis_bit_eq_zero h]
    exact decodeAxis_eq_zero BitVec.zero_and

/-- Within the kept range of an axis a smaller component gives a smaller contribution (R167). -/
theorem encodeAxis_lt {a : Axis} {v w : Component} (h : v < w) (hw : w.toNat < if a = .x then 2 ^ 22 else 2 ^ 21) :
    encodeAxis a v < encodeAxis a w :=
  ((encodeAxis_isSpread_of_lt (lt_trans (BitVec.lt_def.1 h) hw)).lt_iff (encodeAxis_isSpread_of_lt hw) (lane_lt a)).1 h

/-- Settles O54: the code of one component alone is its contribution, which keeps order on the kept range. -/
theorem orderIsKeptWithinOneAxis : Obligations.OrderIsKeptWithinOneAxis := by
  have hx : ∀ v w : Component, v < w → w.toNat < 2 ^ 22 → mortonEncode ⟨v, 0, 0⟩ < mortonEncode ⟨w, 0, 0⟩ := by
    intro v w h hw
    rw [mortonEncode_x_alone, mortonEncode_x_alone]
    exact encodeAxis_lt h hw
  refine ⟨fun v w h hw => hx v w h (lt_trans hw (by decide)), hx, fun v w h hw => ?_, by decide, by decide⟩
  rw [mortonEncode_y_alone, mortonEncode_y_alone, mortonEncode_z_alone, mortonEncode_z_alone]
  exact ⟨encodeAxis_lt h hw, encodeAxis_lt h hw⟩

theorem mortonEncode_getLsbD_top (t : Triple) : (mortonEncode t).getLsbD 63 = t.x.getLsbD 21 :=
  mortonEncode_getLsbD_of_lt t (by decide)

/-- Settles O55: the top code bit is in the lane of X, at its bit 21. -/
theorem topCodeBitIsBit21OfX : Obligations.TopCodeBitIsBit21OfX := by
  refine ⟨mortonEncode_getLsbD_top, fun t hx _ _ => ?_⟩
  have htop : (mortonEncode t).getLsbD 63 = false := by
    rw [mortonEncode_getLsbD_top]
    exact getLsbD_of_lt t.x hx le_rfl
  refine ⟨htop, BitVec.toNat_lt_of_msb_false ?_⟩
  rw [BitVec.msb_eq_getLsbD_last]
  exact htop

/-- Clearing code bit 63 changes nothing where it is 0 (R169). -/
theorem and_clear_top {c : Code} (h : c.getLsbD 63 = false) : c &&& 0x7FFFFFFFFFFFFFFF = c := by
  have hmask : ∀ p < 64, p ≠ 63 → (0x7FFFFFFFFFFFFFFF : Code).getLsbD p = true := by decide
  apply BitVec.eq_of_getLsbD_eq
  intro p hp
  rw [BitVec.getLsbD_and]
  by_cases h63 : p = 63
  · rw [h63, h, Bool.false_and]
  · rw [hmask p hp h63, Bool.and_true]

/-- Settles O56: the readings differ in what they do with bit 21 of X and code bit 63 alone. -/
theorem readingsAgreeOffTheDisputedBit : Obligations.ReadingsAgreeOffTheDisputedBit := by
  refine ⟨fun t h => (mortonEncode_maskEach h).symm, fun c h => ⟨by rw [and_clear_top h], ?_⟩⟩
  have hx : decodeAxis .x c &&& 0x1FFFFF = decodeAxis .x c := by
    rw [← (and_keep_x_eq_iff _).2 ((decodeAxis_getLsbD .x c 21).trans h), decodeAxis_and_keep]
  rw [mortonDecode, Triple.maskEach, hx]
  exact congrArg₂ (Triple.mk _) (decodeAxis_and_keep .y c).symm (decodeAxis_and_keep .z c).symm

end Sys2Proof.Machine
end

section
/-! Codes in Z-order (43_laws.md R170). -/
namespace Sys2Proof

/-- Order read by threes of bits: the highest group that differs decides, and in it the highest bit that differs. -/
theorem lt_iff_getLsbD_threes {n : Nat} (c e : BitVec n) : c < e ↔ ∃ k,
    (∀ j, k < j → c.getLsbD (3 * j) = e.getLsbD (3 * j) ∧ c.getLsbD (3 * j + 1) = e.getLsbD (3 * j + 1) ∧
      c.getLsbD (3 * j + 2) = e.getLsbD (3 * j + 2)) ∧
    ((c.getLsbD (3 * k + 2) = false ∧ e.getLsbD (3 * k + 2) = true) ∨
     (c.getLsbD (3 * k + 2) = e.getLsbD (3 * k + 2) ∧ c.getLsbD (3 * k + 1) = false ∧ e.getLsbD (3 * k + 1) = true) ∨
     (c.getLsbD (3 * k + 2) = e.getLsbD (3 * k + 2) ∧ c.getLsbD (3 * k + 1) = e.getLsbD (3 * k + 1) ∧
      c.getLsbD (3 * k) = false ∧ e.getLsbD (3 * k) = true)) := by
  rw [lt_iff_getLsbD]
  constructor
  · rintro ⟨p, hgt, h0, h1⟩
    refine ⟨p / 3, fun j hj => ⟨hgt _ (by omega), hgt _ (by omega), hgt _ (by omega)⟩, ?_⟩
    rcases show p = 3 * (p / 3) ∨ p = 3 * (p / 3) + 1 ∨ p = 3 * (p / 3) + 2 by omega with hp | hp | hp
    · exact .inr (.inr ⟨hgt _ (by omega), hgt _ (by omega), hp ▸ h0, hp ▸ h1⟩)
    · exact .inr (.inl ⟨hgt _ (by omega), hp ▸ h0, hp ▸ h1⟩)
    · exact .inl ⟨hp ▸ h0, hp ▸ h1⟩
  · rintro ⟨k, hgt, hk⟩
    -- every place above group `k` belongs to one of the three agreeing places of its own group
    have habove : ∀ j, 3 * k + 2 < j → c.getLsbD j = e.getLsbD j := by
      intro j hj
      obtain ⟨hx, hy, hz⟩ := hgt (j / 3) (by omega)
      rcases show j = 3 * (j / 3) ∨ j = 3 * (j / 3) + 1 ∨ j = 3 * (j / 3) + 2 by omega with h | h | h <;> rw [h] <;>
        assumption
    rcases hk with ⟨h0, h1⟩ | ⟨hz, h0, h1⟩ | ⟨hz, hy, h0, h1⟩
    · exact ⟨3 * k + 2, habove, h0, h1⟩
    · refine ⟨3 * k + 1, fun j hj => ?_, h0, h1⟩
      rcases show j = 3 * k + 2 ∨ 3 * k + 2 < j by omega with rfl | h
      · exact hz
      · exact habove j h
    · refine ⟨3 * k, fun j hj => ?_, h0, h1⟩
      rcases show j = 3 * k + 1 ∨ j = 3 * k + 2 ∨ 3 * k + 2 < j by omega with rfl | rfl | h
      · exact hy
      · exact hz
      · exact habove j h

end Sys2Proof

namespace Sys2Proof.Machine

section
variable {t : Triple} (h : InRange t) (k : Nat)
include h

/-- In range, every bit of X stands in the code, at its place in the lane of X (R130). -/
theorem InRange.x_getLsbD : t.x.getLsbD k = (mortonEncode t).getLsbD (3 * k) := by
  conv_lhs => rw [← mortonDecode_mortonEncode_of_inRange h]
  exact decodeAxis_getLsbD .x _ k

theorem InRange.y_getLsbD : t.y.getLsbD k = (mortonEncode t).getLsbD (3 * k + 1) := by
  conv_lhs => rw [← mortonDecode_mortonEncode_of_inRange h]
  exact decodeAxis_getLsbD .y _ k

theorem InRange.z_getLsbD : t.z.getLsbD k = (mortonEncode t).getLsbD (3 * k + 2) := by
  conv_lhs => rw [← mortonDecode_mortonEncode_of_inRange h]
  exact decodeAxis_getLsbD .z _ k

end

/-- The lowest bit of a component goes to the lowest place of its lane. -/
theorem encodeAxis_toNat_of_le_one (a : Axis) {v : Component} (h : v ≤ 1) :
    (encodeAxis a v).toNat = v.toNat * 2 ^ lane a := by
  rcases Nat.le_one_iff_eq_zero_or_eq_one.1 h with h | h
  · obtain rfl : v = 0#32 := BitVec.eq_of_toNat_eq h
    simp
  · obtain rfl : v = 1#32 := BitVec.eq_of_toNat_eq h
    cases a <;> decide

/-- Settles O57: a code holds the three bits of each level side by side, Z highest. -/
theorem codesFollowTheZOrder : Obligations.CodesFollowTheZOrder := by
  refine ⟨fun t u htx hty htz hux huy huz => ?_, fun x y z hx hy hz => ?_⟩
  · have ht : InRange t := ⟨htx, hty, htz⟩
    have hu : InRange u := ⟨hux, huy, huz⟩
    simp only [lt_iff_getLsbD_threes, ht.x_getLsbD, ht.y_getLsbD, ht.z_getLsbD, hu.x_getLsbD, hu.y_getLsbD, hu.z_getLsbD]
  · rw [mortonEncode_toNat, encodeAxis_toNat_of_le_one .x hx, encodeAxis_toNat_of_le_one .y hy,
      encodeAxis_toNat_of_le_one .z hz]
    simp only [lane]
    omega

end Sys2Proof.Machine
end

section
/-! Linearity over OR (43_laws.md R174), the ports (10_state.md R32) and values of the spec's tables. -/
namespace Sys2Proof.Machine

theorem mortonEncode_or (x x' y y' z z' : Component) :
    mortonEncode ⟨x ||| x', y ||| y', z ||| z'⟩ = mortonEncode ⟨x, y, z⟩ ||| mortonEncode ⟨x', y', z'⟩ := by
  simp only [mortonEncode, encodeAxis_or]
  ac_rfl

/-- A code takes nothing away when the components gain bits (R174). -/
theorem mortonEncode_and_of_and {x x' y y' z z' : Component} (hx : x &&& x' = x) (hy : y &&& y' = y) (hz : z &&& z' = z) :
    mortonEncode ⟨x, y, z⟩ &&& mortonEncode ⟨x', y', z'⟩ = mortonEncode ⟨x, y, z⟩ := by
  rw [and_eq_left_iff_or_eq_right] at hx hy hz ⊢
  rw [← mortonEncode_or, hx, hy, hz]

/-- Settles O58: every operation moves bits and clears bits, so it goes through OR. -/
theorem operationsAreLinearOverOr : Obligations.OperationsAreLinearOverOr := by
  refine ⟨fun p q => ⟨interleave_or p q, and_eq_left_of_map_or interleave_or⟩,
    fun a p q => ⟨pack_or a p q, and_eq_left_of_map_or (pack_or a)⟩,
    fun a v w => ⟨encodeAxis_or a v w, and_eq_left_of_map_or (encodeAxis_or a)⟩,
    fun x x' y y' z z' => ⟨?_, ?_, ?_, mortonEncode_and_of_and⟩,
    fun a c e => ⟨decodeAxis_or a c e, and_eq_left_of_map_or (decodeAxis_or a)⟩, fun c e => ?_, by decide,
    fun a => ⟨?_, encodeAxis_zero a, decodeAxis_eq_zero BitVec.zero_and⟩, by decide, by decide⟩
  · rw [← mortonEncode_or, BitVec.or_self, BitVec.or_self]
  · rw [← mortonEncode_or, BitVec.or_self, BitVec.or_self]
  · rw [← mortonEncode_or, BitVec.or_self, BitVec.or_self]
  · simp only [mortonDecode, decodeAxis_or]
  · cases a <;> decide

/-- Settles O59: the operations answer what the blocks show. -/
theorem portsShowTheOperations : Obligations.PortsShowTheOperations := by
  refine ⟨fun p s => ?_, fun p s => exec_eq_answer (.encode p.x_i p.y_i p.z_i) s,
    fun p s => exec_eq_answer (.decode p.code_i) s⟩
  rw [mortonByteInterleaver, ilv_eq_interleave]
  exact exec_eq_answer (.interleave p.b_i) s

/-- Settles O53, by evaluating the seven values. -/
theorem boundaryValues : Obligations.BoundaryValues := by
  unfold Obligations.BoundaryValues
  decide

/-- Settles O7, by decoding the seven words. -/
theorem specWordsDecodeAsListed : Obligations.SpecWordsDecodeAsListed := by
  unfold Obligations.SpecWordsDecodeAsListed
  decide

end Sys2Proof.Machine
end
